-- ==== Sys2Proof/Word.lean ====
section
/-! DEFINITION. The two machine words: bytes and 16-bit words (R5, R8). -/

namespace Sys2Proof

/-- An 8-bit value: a register, a memory cell, D8, N (R5). -/
abbrev Byte := BitVec 8

/-- A 16-bit value: a pair, SP, PC, D16, ADR (R5). -/
abbrev Word := BitVec 16

end Sys2Proof
end

