-- ==== Sys2Proof/Config.lean ====
section
/-! DEFINITION. The parameters of R6, the events between the processor and its environment (R355), and the free
values: what the spec leaves to the environment and constrains in no way. -/

namespace Sys2Proof

/-- `UNDEF_OPCODE_POLICY` of R6: what the twelve unused codes do (R105). -/
inductive UndefOpcodePolicy where
  /-- The model fault of R311 (the spec's default). -/
  | fault
  /-- The documented instruction whose code the chip's decoder confuses with it (the spec's `alias`). -/
  | aliased
  deriving DecidableEq, Repr

/-- `ANA_AC_POLICY` of R6: AC after ANA and ANI (R208). -/
inductive AnaAcPolicy where
  /-- AC is 0, as the source says (the spec's default). -/
  | zero
  /-- AC is bit 3 of the OR of the operands. -/
  | orBit3
  deriving DecidableEq, Repr

/-- `RESET_UNSPECIFIED` of R6: how state with no reset value is treated (R48, R351). -/
inductive ResetUnspecified where
  /-- Every such register and flag holds one value, fixed until first written (the spec's default, `any_value`). -/
  | anyValue
  /-- A read of a register or flag that nothing has written since power-on ends the run (`fault_on_read`). -/
  | faultOnRead
  deriving DecidableEq, Repr

/-- The four kinds of `MEM_KIND` (R6, R62, R63). -/
inductive MemKind where
  | ram | rom | absent | device
  deriving DecidableEq, Repr

/-- A run of `size` addresses from `base` that are of one kind. -/
structure Region where
  base : Nat
  size : Nat
  kind : MemKind
  deriving DecidableEq, Repr

/-- The parameters that the platform or the modeller fixes for a run (R6; log 6, 7, 8, 13, 14). `memMap` is
`MEM_KIND`: the first region that holds an address gives its kind, and an address in no region is `ram`. -/
structure Params where
  undefOpcode : UndefOpcodePolicy
  anaAc : AnaAcPolicy
  memMap : List Region
  resetUnspecified : ResetUnspecified
  haltIsFinal : Bool
  deriving DecidableEq, Repr

/-- The defaults of R6. -/
def Params.default : Params :=
  { undefOpcode := .fault, anaAc := .zero, memMap := [], resetUnspecified := .anyValue, haltIsFinal := true }

/-- An event the environment sees: a port read with the byte returned, a port write (R64, R65), a read of a
`device` address with the byte returned, a write to one (R62, R63). -/
inductive IoEvent where
  | portRead (port value : Byte)
  | portWrite (port value : Byte)
  | deviceRead (addr : Word) (value : Byte)
  | deviceWrite (addr : Word) (value : Byte)
  deriving DecidableEq, Repr

/-- What the environment does at one instruction boundary (R321, R325, R350): whether it applies reset, and the
instruction bytes its device supplies if it requests an interrupt (R322). -/
structure BoundaryInput where
  reset : Bool
  request : Option (List Byte)
  deriving DecidableEq, Repr

/-- A boundary at which the environment does nothing. -/
def BoundaryInput.quiet : BoundaryInput := { reset := false, request := none }

/-- What a memory cell that nothing has written reads as. DESIGN CHOICE, unsafe (log 5): R351 leaves it open. -/
def Config.unwrittenByte : Byte := 0x00

/-- FREE VALUE: the byte an input port returns, `IN_ORACLE(port, history)` (R64; log 9). -/
opaque Config.inOracle : Byte → List IoEvent → Byte

/-- FREE VALUE: the byte a `device` address returns, given the events so far (R62, R67; log 9). -/
opaque Config.deviceOracle : Word → List IoEvent → Byte

/-- FREE VALUE: the byte of the n-th read of an `absent` address, a fresh draw at every read (R62; log 10). -/
opaque Config.absentByte : Nat → Byte

end Sys2Proof
end

