-- ==== Sys2Proof/Syntax.lean ====
section
/-! DEFINITION. The instruction set as syntax: operand names and one constructor per row of the opcode table. -/

namespace Sys2Proof

/-- The seven 8-bit registers (R20). -/
inductive Reg where
  | b | c | d | e | h | l | a
  deriving DecidableEq, Repr

/-- The three register pairs, each written by its first letter B, D or H (R21). -/
inductive RegPair where
  | bc | de | hl
  deriving DecidableEq, Repr

/-- A 16-bit operand `rp`: a register pair or SP (R95). -/
inductive Pair where
  | rp (p : RegPair)
  | sp
  deriving DecidableEq, Repr

/-- An 8-bit operand `R`: a register, or M, the memory byte at address HL (R22, R94). -/
inductive Operand8 where
  | reg (r : Reg)
  | m
  deriving DecidableEq, Repr

/-- The eight conditions of the conditional jumps, calls and returns (R251). -/
inductive Cond where
  | nz | z | nc | c | po | pe | p | m
  deriving DecidableEq, Repr

/-- The eight two-operand operations of group 6 (R98, R198). -/
inductive AluOp where
  | add | adc | sub | sbb | ana | xra | ora | cmp
  deriving DecidableEq, Repr

/-- The instructions, one constructor per first byte of the opcode map (R101), the twelve unused codes among
them (R105): format F3 first, then F2, then F1 (R91 to R93). D8 and N are bytes, D16 and ADR are 16-bit words
(R107). -/
inductive Instr where
  /-- `LXI B,D16`, code 01 (R140). -/
  | lxiB (d16 : Word)
  /-- `LXI D,D16`, code 11 (R140). -/
  | lxiD (d16 : Word)
  /-- `LXI H,D16`, code 21 (R140). -/
  | lxiH (d16 : Word)
  /-- `SHLD ADR`, code 22 (R141). -/
  | shld (adr : Word)
  /-- `LHLD ADR`, code 2A (R142). -/
  | lhld (adr : Word)
  /-- `LXI SP,D16`, code 31 (R140). -/
  | lxiSP (d16 : Word)
  /-- `STA ADR`, code 32 (R125). -/
  | sta (adr : Word)
  /-- `LDA ADR`, code 3A (R126). -/
  | lda (adr : Word)
  /-- `JNZ ADR`, code C2 (R254). -/
  | jnz (adr : Word)
  /-- `JMP ADR`, code C3 (R252). -/
  | jmp (adr : Word)
  /-- `CNZ ADR`, code C4 (R265). -/
  | cnz (adr : Word)
  /-- `JZ ADR`, code CA (R255). -/
  | jz (adr : Word)
  /-- `(unused CB)`, code CB (R105). -/
  | unusedCB (adr : Word)
  /-- `CZ ADR`, code CC (R266). -/
  | cz (adr : Word)
  /-- `CALL ADR`, code CD (R262). -/
  | call (adr : Word)
  /-- `JNC ADR`, code D2 (R256). -/
  | jnc (adr : Word)
  /-- `CNC ADR`, code D4 (R267). -/
  | cnc (adr : Word)
  /-- `JC ADR`, code DA (R257). -/
  | jc (adr : Word)
  /-- `CC ADR`, code DC (R268). -/
  | cc (adr : Word)
  /-- `(unused DD)`, code DD (R105). -/
  | unusedDD (adr : Word)
  /-- `JPO ADR`, code E2 (R258). -/
  | jpo (adr : Word)
  /-- `CPO ADR`, code E4 (R269). -/
  | cpo (adr : Word)
  /-- `JPE ADR`, code EA (R259). -/
  | jpe (adr : Word)
  /-- `CPE ADR`, code EC (R270). -/
  | cpe (adr : Word)
  /-- `(unused ED)`, code ED (R105). -/
  | unusedED (adr : Word)
  /-- `JP ADR`, code F2 (R260). -/
  | jp (adr : Word)
  /-- `CP ADR`, code F4 (R271). -/
  | cp (adr : Word)
  /-- `JM ADR`, code FA (R261). -/
  | jm (adr : Word)
  /-- `CM ADR`, code FC (R272). -/
  | cm (adr : Word)
  /-- `(unused FD)`, code FD (R105). -/
  | unusedFD (adr : Word)
  /-- `MVI B,D8`, code 06 (R127). -/
  | mviB (d8 : Byte)
  /-- `MVI C,D8`, code 0E (R127). -/
  | mviC (d8 : Byte)
  /-- `MVI D,D8`, code 16 (R127). -/
  | mviD (d8 : Byte)
  /-- `MVI E,D8`, code 1E (R127). -/
  | mviE (d8 : Byte)
  /-- `MVI H,D8`, code 26 (R127). -/
  | mviH (d8 : Byte)
  /-- `MVI L,D8`, code 2E (R127). -/
  | mviL (d8 : Byte)
  /-- `MVI M,D8`, code 36 (R128). -/
  | mviM (d8 : Byte)
  /-- `MVI A,D8`, code 3E (R127). -/
  | mviA (d8 : Byte)
  /-- `ADI D8`, code C6 (R201). -/
  | adi (d8 : Byte)
  /-- `ACI D8`, code CE (R203). -/
  | aci (d8 : Byte)
  /-- `OUT N`, code D3 (R161). -/
  | outN (n : Byte)
  /-- `SUI D8`, code D6 (R205). -/
  | sui (d8 : Byte)
  /-- `IN N`, code DB (R160). -/
  | inN (n : Byte)
  /-- `SBI D8`, code DE (R207). -/
  | sbi (d8 : Byte)
  /-- `ANI D8`, code E6 (R209). -/
  | ani (d8 : Byte)
  /-- `XRI D8`, code EE (R213). -/
  | xri (d8 : Byte)
  /-- `ORI D8`, code F6 (R211). -/
  | ori (d8 : Byte)
  /-- `CPI D8`, code FE (R215). -/
  | cpi (d8 : Byte)
  /-- `NOP`, code 00 (R300). -/
  | nop
  /-- `STAX B`, code 02 (R123). -/
  | staxB
  /-- `INX B`, code 03 (R186). -/
  | inxB
  /-- `INR B`, code 04 (R184). -/
  | inrB
  /-- `DCR B`, code 05 (R185). -/
  | dcrB
  /-- `RLC`, code 07 (R240). -/
  | rlc
  /-- `(unused 08)`, code 08 (R105). -/
  | unused08
  /-- `DAD B`, code 09 (R216). -/
  | dadB
  /-- `LDAX B`, code 0A (R124). -/
  | ldaxB
  /-- `DCX B`, code 0B (R187). -/
  | dcxB
  /-- `INR C`, code 0C (R184). -/
  | inrC
  /-- `DCR C`, code 0D (R185). -/
  | dcrC
  /-- `RRC`, code 0F (R241). -/
  | rrc
  /-- `(unused 10)`, code 10 (R105). -/
  | unused10
  /-- `STAX D`, code 12 (R123). -/
  | staxD
  /-- `INX D`, code 13 (R186). -/
  | inxD
  /-- `INR D`, code 14 (R184). -/
  | inrD
  /-- `DCR D`, code 15 (R185). -/
  | dcrD
  /-- `RAL`, code 17 (R242). -/
  | ral
  /-- `(unused 18)`, code 18 (R105). -/
  | unused18
  /-- `DAD D`, code 19 (R216). -/
  | dadD
  /-- `LDAX D`, code 1A (R124). -/
  | ldaxD
  /-- `DCX D`, code 1B (R187). -/
  | dcxD
  /-- `INR E`, code 1C (R184). -/
  | inrE
  /-- `DCR E`, code 1D (R185). -/
  | dcrE
  /-- `RAR`, code 1F (R243). -/
  | rar
  /-- `(unused 20)`, code 20 (R105). -/
  | unused20
  /-- `INX H`, code 23 (R186). -/
  | inxH
  /-- `INR H`, code 24 (R184). -/
  | inrH
  /-- `DCR H`, code 25 (R185). -/
  | dcrH
  /-- `DAA`, code 27 (R183). -/
  | daa
  /-- `(unused 28)`, code 28 (R105). -/
  | unused28
  /-- `DAD H`, code 29 (R216). -/
  | dadH
  /-- `DCX H`, code 2B (R187). -/
  | dcxH
  /-- `INR L`, code 2C (R184). -/
  | inrL
  /-- `DCR L`, code 2D (R185). -/
  | dcrL
  /-- `CMA`, code 2F (R182). -/
  | cma
  /-- `(unused 30)`, code 30 (R105). -/
  | unused30
  /-- `INX SP`, code 33 (R186). -/
  | inxSP
  /-- `INR M`, code 34 (R184). -/
  | inrM
  /-- `DCR M`, code 35 (R185). -/
  | dcrM
  /-- `STC`, code 37 (R181). -/
  | stc
  /-- `(unused 38)`, code 38 (R105). -/
  | unused38
  /-- `DAD SP`, code 39 (R216). -/
  | dadSP
  /-- `DCX SP`, code 3B (R187). -/
  | dcxSP
  /-- `INR A`, code 3C (R184). -/
  | inrA
  /-- `DCR A`, code 3D (R185). -/
  | dcrA
  /-- `CMC`, code 3F (R180). -/
  | cmc
  /-- `MOV B,B`, code 40 (R120). -/
  | movBB
  /-- `MOV B,C`, code 41 (R120). -/
  | movBC
  /-- `MOV B,D`, code 42 (R120). -/
  | movBD
  /-- `MOV B,E`, code 43 (R120). -/
  | movBE
  /-- `MOV B,H`, code 44 (R120). -/
  | movBH
  /-- `MOV B,L`, code 45 (R120). -/
  | movBL
  /-- `MOV B,M`, code 46 (R121). -/
  | movBM
  /-- `MOV B,A`, code 47 (R120). -/
  | movBA
  /-- `MOV C,B`, code 48 (R120). -/
  | movCB
  /-- `MOV C,C`, code 49 (R120). -/
  | movCC
  /-- `MOV C,D`, code 4A (R120). -/
  | movCD
  /-- `MOV C,E`, code 4B (R120). -/
  | movCE
  /-- `MOV C,H`, code 4C (R120). -/
  | movCH
  /-- `MOV C,L`, code 4D (R120). -/
  | movCL
  /-- `MOV C,M`, code 4E (R121). -/
  | movCM
  /-- `MOV C,A`, code 4F (R120). -/
  | movCA
  /-- `MOV D,B`, code 50 (R120). -/
  | movDB
  /-- `MOV D,C`, code 51 (R120). -/
  | movDC
  /-- `MOV D,D`, code 52 (R120). -/
  | movDD
  /-- `MOV D,E`, code 53 (R120). -/
  | movDE
  /-- `MOV D,H`, code 54 (R120). -/
  | movDH
  /-- `MOV D,L`, code 55 (R120). -/
  | movDL
  /-- `MOV D,M`, code 56 (R121). -/
  | movDM
  /-- `MOV D,A`, code 57 (R120). -/
  | movDA
  /-- `MOV E,B`, code 58 (R120). -/
  | movEB
  /-- `MOV E,C`, code 59 (R120). -/
  | movEC
  /-- `MOV E,D`, code 5A (R120). -/
  | movED
  /-- `MOV E,E`, code 5B (R120). -/
  | movEE
  /-- `MOV E,H`, code 5C (R120). -/
  | movEH
  /-- `MOV E,L`, code 5D (R120). -/
  | movEL
  /-- `MOV E,M`, code 5E (R121). -/
  | movEM
  /-- `MOV E,A`, code 5F (R120). -/
  | movEA
  /-- `MOV H,B`, code 60 (R120). -/
  | movHB
  /-- `MOV H,C`, code 61 (R120). -/
  | movHC
  /-- `MOV H,D`, code 62 (R120). -/
  | movHD
  /-- `MOV H,E`, code 63 (R120). -/
  | movHE
  /-- `MOV H,H`, code 64 (R120). -/
  | movHH
  /-- `MOV H,L`, code 65 (R120). -/
  | movHL
  /-- `MOV H,M`, code 66 (R121). -/
  | movHM
  /-- `MOV H,A`, code 67 (R120). -/
  | movHA
  /-- `MOV L,B`, code 68 (R120). -/
  | movLB
  /-- `MOV L,C`, code 69 (R120). -/
  | movLC
  /-- `MOV L,D`, code 6A (R120). -/
  | movLD
  /-- `MOV L,E`, code 6B (R120). -/
  | movLE
  /-- `MOV L,H`, code 6C (R120). -/
  | movLH
  /-- `MOV L,L`, code 6D (R120). -/
  | movLL
  /-- `MOV L,M`, code 6E (R121). -/
  | movLM
  /-- `MOV L,A`, code 6F (R120). -/
  | movLA
  /-- `MOV M,B`, code 70 (R122). -/
  | movMB
  /-- `MOV M,C`, code 71 (R122). -/
  | movMC
  /-- `MOV M,D`, code 72 (R122). -/
  | movMD
  /-- `MOV M,E`, code 73 (R122). -/
  | movME
  /-- `MOV M,H`, code 74 (R122). -/
  | movMH
  /-- `MOV M,L`, code 75 (R122). -/
  | movML
  /-- `HLT`, code 76 (R301). -/
  | hlt
  /-- `MOV M,A`, code 77 (R122). -/
  | movMA
  /-- `MOV A,B`, code 78 (R120). -/
  | movAB
  /-- `MOV A,C`, code 79 (R120). -/
  | movAC
  /-- `MOV A,D`, code 7A (R120). -/
  | movAD
  /-- `MOV A,E`, code 7B (R120). -/
  | movAE
  /-- `MOV A,H`, code 7C (R120). -/
  | movAH
  /-- `MOV A,L`, code 7D (R120). -/
  | movAL
  /-- `MOV A,M`, code 7E (R121). -/
  | movAM
  /-- `MOV A,A`, code 7F (R120). -/
  | movAA
  /-- `ADD B`, code 80 (R200). -/
  | addB
  /-- `ADD C`, code 81 (R200). -/
  | addC
  /-- `ADD D`, code 82 (R200). -/
  | addD
  /-- `ADD E`, code 83 (R200). -/
  | addE
  /-- `ADD H`, code 84 (R200). -/
  | addH
  /-- `ADD L`, code 85 (R200). -/
  | addL
  /-- `ADD M`, code 86 (R200). -/
  | addM
  /-- `ADD A`, code 87 (R200). -/
  | addA
  /-- `ADC B`, code 88 (R202). -/
  | adcB
  /-- `ADC C`, code 89 (R202). -/
  | adcC
  /-- `ADC D`, code 8A (R202). -/
  | adcD
  /-- `ADC E`, code 8B (R202). -/
  | adcE
  /-- `ADC H`, code 8C (R202). -/
  | adcH
  /-- `ADC L`, code 8D (R202). -/
  | adcL
  /-- `ADC M`, code 8E (R202). -/
  | adcM
  /-- `ADC A`, code 8F (R202). -/
  | adcA
  /-- `SUB B`, code 90 (R204). -/
  | subB
  /-- `SUB C`, code 91 (R204). -/
  | subC
  /-- `SUB D`, code 92 (R204). -/
  | subD
  /-- `SUB E`, code 93 (R204). -/
  | subE
  /-- `SUB H`, code 94 (R204). -/
  | subH
  /-- `SUB L`, code 95 (R204). -/
  | subL
  /-- `SUB M`, code 96 (R204). -/
  | subM
  /-- `SUB A`, code 97 (R204). -/
  | subA
  /-- `SBB B`, code 98 (R206). -/
  | sbbB
  /-- `SBB C`, code 99 (R206). -/
  | sbbC
  /-- `SBB D`, code 9A (R206). -/
  | sbbD
  /-- `SBB E`, code 9B (R206). -/
  | sbbE
  /-- `SBB H`, code 9C (R206). -/
  | sbbH
  /-- `SBB L`, code 9D (R206). -/
  | sbbL
  /-- `SBB M`, code 9E (R206). -/
  | sbbM
  /-- `SBB A`, code 9F (R206). -/
  | sbbA
  /-- `ANA B`, code A0 (R208). -/
  | anaB
  /-- `ANA C`, code A1 (R208). -/
  | anaC
  /-- `ANA D`, code A2 (R208). -/
  | anaD
  /-- `ANA E`, code A3 (R208). -/
  | anaE
  /-- `ANA H`, code A4 (R208). -/
  | anaH
  /-- `ANA L`, code A5 (R208). -/
  | anaL
  /-- `ANA M`, code A6 (R208). -/
  | anaM
  /-- `ANA A`, code A7 (R208). -/
  | anaA
  /-- `XRA B`, code A8 (R212). -/
  | xraB
  /-- `XRA C`, code A9 (R212). -/
  | xraC
  /-- `XRA D`, code AA (R212). -/
  | xraD
  /-- `XRA E`, code AB (R212). -/
  | xraE
  /-- `XRA H`, code AC (R212). -/
  | xraH
  /-- `XRA L`, code AD (R212). -/
  | xraL
  /-- `XRA M`, code AE (R212). -/
  | xraM
  /-- `XRA A`, code AF (R212). -/
  | xraA
  /-- `ORA B`, code B0 (R210). -/
  | oraB
  /-- `ORA C`, code B1 (R210). -/
  | oraC
  /-- `ORA D`, code B2 (R210). -/
  | oraD
  /-- `ORA E`, code B3 (R210). -/
  | oraE
  /-- `ORA H`, code B4 (R210). -/
  | oraH
  /-- `ORA L`, code B5 (R210). -/
  | oraL
  /-- `ORA M`, code B6 (R210). -/
  | oraM
  /-- `ORA A`, code B7 (R210). -/
  | oraA
  /-- `CMP B`, code B8 (R214). -/
  | cmpB
  /-- `CMP C`, code B9 (R214). -/
  | cmpC
  /-- `CMP D`, code BA (R214). -/
  | cmpD
  /-- `CMP E`, code BB (R214). -/
  | cmpE
  /-- `CMP H`, code BC (R214). -/
  | cmpH
  /-- `CMP L`, code BD (R214). -/
  | cmpL
  /-- `CMP M`, code BE (R214). -/
  | cmpM
  /-- `CMP A`, code BF (R214). -/
  | cmpA
  /-- `RNZ`, code C0 (R273). -/
  | rnz
  /-- `POP B`, code C1 (R145). -/
  | popB
  /-- `PUSH B`, code C5 (R143). -/
  | pushB
  /-- `RST 0`, code C7 (R264). -/
  | rst0
  /-- `RZ`, code C8 (R274). -/
  | rz
  /-- `RET`, code C9 (R263). -/
  | ret
  /-- `RST 1`, code CF (R264). -/
  | rst1
  /-- `RNC`, code D0 (R275). -/
  | rnc
  /-- `POP D`, code D1 (R145). -/
  | popD
  /-- `PUSH D`, code D5 (R143). -/
  | pushD
  /-- `RST 2`, code D7 (R264). -/
  | rst2
  /-- `RC`, code D8 (R276). -/
  | rc
  /-- `(unused D9)`, code D9 (R105). -/
  | unusedD9
  /-- `RST 3`, code DF (R264). -/
  | rst3
  /-- `RPO`, code E0 (R277). -/
  | rpo
  /-- `POP H`, code E1 (R145). -/
  | popH
  /-- `XTHL`, code E3 (R171). -/
  | xthl
  /-- `PUSH H`, code E5 (R143). -/
  | pushH
  /-- `RST 4`, code E7 (R264). -/
  | rst4
  /-- `RPE`, code E8 (R278). -/
  | rpe
  /-- `PCHL`, code E9 (R253). -/
  | pchl
  /-- `XCHG`, code EB (R170). -/
  | xchg
  /-- `RST 5`, code EF (R264). -/
  | rst5
  /-- `RP`, code F0 (R279). -/
  | rp
  /-- `POP PSW`, code F1 (R146). -/
  | popPSW
  /-- `DI`, code F3 (R303). -/
  | di
  /-- `PUSH PSW`, code F5 (R144). -/
  | pushPSW
  /-- `RST 6`, code F7 (R264). -/
  | rst6
  /-- `RM`, code F8 (R280). -/
  | rm
  /-- `SPHL`, code F9 (R129). -/
  | sphl
  /-- `EI`, code FB (R302). -/
  | ei
  /-- `RST 7`, code FF (R264). -/
  | rst7
  deriving DecidableEq, Repr

/-! The generic instructions of R12 and R113: a mnemonic together with its operand fields. -/

/-- `MOV r1,r2` for every pair of registers, destination first (R120). -/
def Instr.mov : Reg → Reg → Instr
  | .b, .b => .movBB
  | .b, .c => .movBC
  | .b, .d => .movBD
  | .b, .e => .movBE
  | .b, .h => .movBH
  | .b, .l => .movBL
  | .b, .a => .movBA
  | .c, .b => .movCB
  | .c, .c => .movCC
  | .c, .d => .movCD
  | .c, .e => .movCE
  | .c, .h => .movCH
  | .c, .l => .movCL
  | .c, .a => .movCA
  | .d, .b => .movDB
  | .d, .c => .movDC
  | .d, .d => .movDD
  | .d, .e => .movDE
  | .d, .h => .movDH
  | .d, .l => .movDL
  | .d, .a => .movDA
  | .e, .b => .movEB
  | .e, .c => .movEC
  | .e, .d => .movED
  | .e, .e => .movEE
  | .e, .h => .movEH
  | .e, .l => .movEL
  | .e, .a => .movEA
  | .h, .b => .movHB
  | .h, .c => .movHC
  | .h, .d => .movHD
  | .h, .e => .movHE
  | .h, .h => .movHH
  | .h, .l => .movHL
  | .h, .a => .movHA
  | .l, .b => .movLB
  | .l, .c => .movLC
  | .l, .d => .movLD
  | .l, .e => .movLE
  | .l, .h => .movLH
  | .l, .l => .movLL
  | .l, .a => .movLA
  | .a, .b => .movAB
  | .a, .c => .movAC
  | .a, .d => .movAD
  | .a, .e => .movAE
  | .a, .h => .movAH
  | .a, .l => .movAL
  | .a, .a => .movAA

/-- `MOV r,M` for every register (R121). -/
def Instr.movFromM : Reg → Instr
  | .b => .movBM
  | .c => .movCM
  | .d => .movDM
  | .e => .movEM
  | .h => .movHM
  | .l => .movLM
  | .a => .movAM

/-- `MOV M,r` for every register (R122). -/
def Instr.movToM : Reg → Instr
  | .b => .movMB
  | .c => .movMC
  | .d => .movMD
  | .e => .movME
  | .h => .movMH
  | .l => .movML
  | .a => .movMA

/-- `MVI r,D8` for every register (R127). -/
def Instr.mvi : Reg → Byte → Instr
  | .b, v => .mviB v
  | .c, v => .mviC v
  | .d, v => .mviD v
  | .e, v => .mviE v
  | .h, v => .mviH v
  | .l, v => .mviL v
  | .a, v => .mviA v

/-- `LXI rp,D16` for every pair (R140). -/
def Instr.lxi : Pair → Word → Instr
  | .rp .bc, v => .lxiB v
  | .rp .de, v => .lxiD v
  | .rp .hl, v => .lxiH v
  | .sp, v => .lxiSP v

/-- `INX rp` for every pair (R186). -/
def Instr.inx : Pair → Instr
  | .rp .bc => .inxB
  | .rp .de => .inxD
  | .rp .hl => .inxH
  | .sp => .inxSP

/-- `DCX rp` for every pair (R187). -/
def Instr.dcx : Pair → Instr
  | .rp .bc => .dcxB
  | .rp .de => .dcxD
  | .rp .hl => .dcxH
  | .sp => .dcxSP

/-- `DAD rp` for every pair (R216). -/
def Instr.dad : Pair → Instr
  | .rp .bc => .dadB
  | .rp .de => .dadD
  | .rp .hl => .dadH
  | .sp => .dadSP

/-- `PUSH rp` for the pairs of registers (R143). -/
def Instr.push : RegPair → Instr
  | .bc => .pushB
  | .de => .pushD
  | .hl => .pushH

/-- `POP rp` for the pairs of registers (R145). -/
def Instr.pop : RegPair → Instr
  | .bc => .popB
  | .de => .popD
  | .hl => .popH

/-- `INR r` and `INR M` (R184). -/
def Instr.inr : Operand8 → Instr
  | .reg .b => .inrB
  | .reg .c => .inrC
  | .reg .d => .inrD
  | .reg .e => .inrE
  | .reg .h => .inrH
  | .reg .l => .inrL
  | .m => .inrM
  | .reg .a => .inrA

/-- `DCR r` and `DCR M` (R185). -/
def Instr.dcr : Operand8 → Instr
  | .reg .b => .dcrB
  | .reg .c => .dcrC
  | .reg .d => .dcrD
  | .reg .e => .dcrE
  | .reg .h => .dcrH
  | .reg .l => .dcrL
  | .m => .dcrM
  | .reg .a => .dcrA

/-- The eight one-byte ALU instructions with a register or M (R198). -/
def Instr.alu : AluOp → Operand8 → Instr
  | .add, .reg .b => .addB
  | .add, .reg .c => .addC
  | .add, .reg .d => .addD
  | .add, .reg .e => .addE
  | .add, .reg .h => .addH
  | .add, .reg .l => .addL
  | .add, .m => .addM
  | .add, .reg .a => .addA
  | .adc, .reg .b => .adcB
  | .adc, .reg .c => .adcC
  | .adc, .reg .d => .adcD
  | .adc, .reg .e => .adcE
  | .adc, .reg .h => .adcH
  | .adc, .reg .l => .adcL
  | .adc, .m => .adcM
  | .adc, .reg .a => .adcA
  | .sub, .reg .b => .subB
  | .sub, .reg .c => .subC
  | .sub, .reg .d => .subD
  | .sub, .reg .e => .subE
  | .sub, .reg .h => .subH
  | .sub, .reg .l => .subL
  | .sub, .m => .subM
  | .sub, .reg .a => .subA
  | .sbb, .reg .b => .sbbB
  | .sbb, .reg .c => .sbbC
  | .sbb, .reg .d => .sbbD
  | .sbb, .reg .e => .sbbE
  | .sbb, .reg .h => .sbbH
  | .sbb, .reg .l => .sbbL
  | .sbb, .m => .sbbM
  | .sbb, .reg .a => .sbbA
  | .ana, .reg .b => .anaB
  | .ana, .reg .c => .anaC
  | .ana, .reg .d => .anaD
  | .ana, .reg .e => .anaE
  | .ana, .reg .h => .anaH
  | .ana, .reg .l => .anaL
  | .ana, .m => .anaM
  | .ana, .reg .a => .anaA
  | .xra, .reg .b => .xraB
  | .xra, .reg .c => .xraC
  | .xra, .reg .d => .xraD
  | .xra, .reg .e => .xraE
  | .xra, .reg .h => .xraH
  | .xra, .reg .l => .xraL
  | .xra, .m => .xraM
  | .xra, .reg .a => .xraA
  | .ora, .reg .b => .oraB
  | .ora, .reg .c => .oraC
  | .ora, .reg .d => .oraD
  | .ora, .reg .e => .oraE
  | .ora, .reg .h => .oraH
  | .ora, .reg .l => .oraL
  | .ora, .m => .oraM
  | .ora, .reg .a => .oraA
  | .cmp, .reg .b => .cmpB
  | .cmp, .reg .c => .cmpC
  | .cmp, .reg .d => .cmpD
  | .cmp, .reg .e => .cmpE
  | .cmp, .reg .h => .cmpH
  | .cmp, .reg .l => .cmpL
  | .cmp, .m => .cmpM
  | .cmp, .reg .a => .cmpA

/-- The eight two-byte ALU instructions with D8 (R198). -/
def Instr.aluImm : AluOp → Byte → Instr
  | .add, v => .adi v
  | .adc, v => .aci v
  | .sub, v => .sui v
  | .sbb, v => .sbi v
  | .ana, v => .ani v
  | .xra, v => .xri v
  | .ora, v => .ori v
  | .cmp, v => .cpi v

/-- The eight conditional jumps (R254 to R261). -/
def Instr.jumpCond : Cond → Word → Instr
  | .nz, adr => .jnz adr
  | .z, adr => .jz adr
  | .nc, adr => .jnc adr
  | .c, adr => .jc adr
  | .po, adr => .jpo adr
  | .pe, adr => .jpe adr
  | .p, adr => .jp adr
  | .m, adr => .jm adr

/-- The eight conditional calls (R265 to R272). -/
def Instr.callCond : Cond → Word → Instr
  | .nz, adr => .cnz adr
  | .z, adr => .cz adr
  | .nc, adr => .cnc adr
  | .c, adr => .cc adr
  | .po, adr => .cpo adr
  | .pe, adr => .cpe adr
  | .p, adr => .cp adr
  | .m, adr => .cm adr

/-- The eight conditional returns (R273 to R280). -/
def Instr.retCond : Cond → Instr
  | .nz => .rnz
  | .z => .rz
  | .nc => .rnc
  | .c => .rc
  | .po => .rpo
  | .pe => .rpe
  | .p => .rp
  | .m => .rm

/-- `RST n` for n = 0 to 7 (R264). -/
def Instr.rst : Fin 8 → Instr
  | 0 => .rst0
  | 1 => .rst1
  | 2 => .rst2
  | 3 => .rst3
  | 4 => .rst4
  | 5 => .rst5
  | 6 => .rst6
  | 7 => .rst7

end Sys2Proof
end

