-- ==== Sys2Proof/WellFormed.lean ====
section
/-! DEFINITION. The static checks: which instructions the instruction set has, which supplied instructions the
interrupt entry defines, which memory maps lie inside the address space. -/

namespace Sys2Proof

/-- An instruction is well formed when it is one of the 244 the instruction set has and not an unused code
(R103, R105). Operand values need no check: D8, N, D16 and ADR take every value of their width (R107). -/
def Instr.wellFormed : Instr → Bool
  | .unused08 => false
  | .unused10 => false
  | .unused18 => false
  | .unused20 => false
  | .unused28 => false
  | .unused30 => false
  | .unused38 => false
  | .unusedCB _ => false
  | .unusedD9 => false
  | .unusedDD _ => false
  | .unusedED _ => false
  | .unusedFD _ => false
  | _ => true

/-- The supplied instructions that R322 defines: RST n, and CALL with both its address bytes. -/
def suppliedWellFormed : List Byte → Bool
  | [op] => op &&& 0xC7 == 0xC7
  | [op, _, _] => op == 0xCD
  | _ => false

/-- A region lies inside the 65 536 addresses (R60). -/
def Region.wellFormed (r : Region) : Bool :=
  decide (r.base + r.size ≤ 65536)

/-- Every region of the memory map lies inside the address space. -/
def Params.wellFormed (p : Params) : Bool :=
  p.memMap.all Region.wellFormed

end Sys2Proof
end

