-- ==== Sys2Proof/Decode.lean ====
section
/-! DEFINITION. Decoding by the opcode map of R101, and after it the encoder by the field patterns of R94 to R98. -/

namespace Sys2Proof

/-- `hi ++ lo`, the high byte in the more significant half (R7). -/
def joinBytes (hi lo : Byte) : Word := hi ++ lo

/-- Bits 15 to 8 of a word (R7). -/
def highByte (w : Word) : Byte := w.extractLsb' 8 8

/-- Bits 7 to 0 of a word (R7). -/
def lowByte (w : Word) : Byte := w.extractLsb' 0 8

/-- The two bytes of a 16-bit operand as they stand in an instruction, low byte first (R68, R93). -/
def wordBytes (w : Word) : List Byte := [lowByte w, highByte w]

/-! ## The opcode map -/

/-- What the first byte says of an instruction: how many operand bytes follow and which instruction they make
(R91, R92, R93). -/
inductive Shape where
  /-- Format F1: the first byte is the whole instruction. -/
  | one (i : Instr)
  /-- Format F2: byte 2 is D8 or N. -/
  | two (f : Byte → Instr)
  /-- Format F3: bytes 2 and 3 are D16 or ADR. -/
  | three (f : Word → Instr)
  /-- An unused code that has length 3 under the `alias` policy and no length under `fault` (R100, R105). -/
  | unusedThree (f : Word → Instr)

/-- Row 0 of the map of R101: codes 00 to 0F. -/
def opcodeRow0 : List Shape :=
  [.one .nop, .three .lxiB, .one .staxB, .one .inxB,
   .one .inrB, .one .dcrB, .two .mviB, .one .rlc,
   .one .unused08, .one .dadB, .one .ldaxB, .one .dcxB,
   .one .inrC, .one .dcrC, .two .mviC, .one .rrc]

/-- Row 1 of the map of R101: codes 10 to 1F. -/
def opcodeRow1 : List Shape :=
  [.one .unused10, .three .lxiD, .one .staxD, .one .inxD,
   .one .inrD, .one .dcrD, .two .mviD, .one .ral,
   .one .unused18, .one .dadD, .one .ldaxD, .one .dcxD,
   .one .inrE, .one .dcrE, .two .mviE, .one .rar]

/-- Row 2 of the map of R101: codes 20 to 2F. -/
def opcodeRow2 : List Shape :=
  [.one .unused20, .three .lxiH, .three .shld, .one .inxH,
   .one .inrH, .one .dcrH, .two .mviH, .one .daa,
   .one .unused28, .one .dadH, .three .lhld, .one .dcxH,
   .one .inrL, .one .dcrL, .two .mviL, .one .cma]

/-- Row 3 of the map of R101: codes 30 to 3F. -/
def opcodeRow3 : List Shape :=
  [.one .unused30, .three .lxiSP, .three .sta, .one .inxSP,
   .one .inrM, .one .dcrM, .two .mviM, .one .stc,
   .one .unused38, .one .dadSP, .three .lda, .one .dcxSP,
   .one .inrA, .one .dcrA, .two .mviA, .one .cmc]

/-- Row 4 of the map of R101: codes 40 to 4F. -/
def opcodeRow4 : List Shape :=
  [.one .movBB, .one .movBC, .one .movBD, .one .movBE,
   .one .movBH, .one .movBL, .one .movBM, .one .movBA,
   .one .movCB, .one .movCC, .one .movCD, .one .movCE,
   .one .movCH, .one .movCL, .one .movCM, .one .movCA]

/-- Row 5 of the map of R101: codes 50 to 5F. -/
def opcodeRow5 : List Shape :=
  [.one .movDB, .one .movDC, .one .movDD, .one .movDE,
   .one .movDH, .one .movDL, .one .movDM, .one .movDA,
   .one .movEB, .one .movEC, .one .movED, .one .movEE,
   .one .movEH, .one .movEL, .one .movEM, .one .movEA]

/-- Row 6 of the map of R101: codes 60 to 6F. -/
def opcodeRow6 : List Shape :=
  [.one .movHB, .one .movHC, .one .movHD, .one .movHE,
   .one .movHH, .one .movHL, .one .movHM, .one .movHA,
   .one .movLB, .one .movLC, .one .movLD, .one .movLE,
   .one .movLH, .one .movLL, .one .movLM, .one .movLA]

/-- Row 7 of the map of R101: codes 70 to 7F. -/
def opcodeRow7 : List Shape :=
  [.one .movMB, .one .movMC, .one .movMD, .one .movME,
   .one .movMH, .one .movML, .one .hlt, .one .movMA,
   .one .movAB, .one .movAC, .one .movAD, .one .movAE,
   .one .movAH, .one .movAL, .one .movAM, .one .movAA]

/-- Row 8 of the map of R101: codes 80 to 8F. -/
def opcodeRow8 : List Shape :=
  [.one .addB, .one .addC, .one .addD, .one .addE,
   .one .addH, .one .addL, .one .addM, .one .addA,
   .one .adcB, .one .adcC, .one .adcD, .one .adcE,
   .one .adcH, .one .adcL, .one .adcM, .one .adcA]

/-- Row 9 of the map of R101: codes 90 to 9F. -/
def opcodeRow9 : List Shape :=
  [.one .subB, .one .subC, .one .subD, .one .subE,
   .one .subH, .one .subL, .one .subM, .one .subA,
   .one .sbbB, .one .sbbC, .one .sbbD, .one .sbbE,
   .one .sbbH, .one .sbbL, .one .sbbM, .one .sbbA]

/-- Row A of the map of R101: codes A0 to AF. -/
def opcodeRowA : List Shape :=
  [.one .anaB, .one .anaC, .one .anaD, .one .anaE,
   .one .anaH, .one .anaL, .one .anaM, .one .anaA,
   .one .xraB, .one .xraC, .one .xraD, .one .xraE,
   .one .xraH, .one .xraL, .one .xraM, .one .xraA]

/-- Row B of the map of R101: codes B0 to BF. -/
def opcodeRowB : List Shape :=
  [.one .oraB, .one .oraC, .one .oraD, .one .oraE,
   .one .oraH, .one .oraL, .one .oraM, .one .oraA,
   .one .cmpB, .one .cmpC, .one .cmpD, .one .cmpE,
   .one .cmpH, .one .cmpL, .one .cmpM, .one .cmpA]

/-- Row C of the map of R101: codes C0 to CF. -/
def opcodeRowC : List Shape :=
  [.one .rnz, .one .popB, .three .jnz, .three .jmp,
   .three .cnz, .one .pushB, .two .adi, .one .rst0,
   .one .rz, .one .ret, .three .jz, .unusedThree .unusedCB,
   .three .cz, .three .call, .two .aci, .one .rst1]

/-- Row D of the map of R101: codes D0 to DF. -/
def opcodeRowD : List Shape :=
  [.one .rnc, .one .popD, .three .jnc, .two .outN,
   .three .cnc, .one .pushD, .two .sui, .one .rst2,
   .one .rc, .one .unusedD9, .three .jc, .two .inN,
   .three .cc, .unusedThree .unusedDD, .two .sbi, .one .rst3]

/-- Row E of the map of R101: codes E0 to EF. -/
def opcodeRowE : List Shape :=
  [.one .rpo, .one .popH, .three .jpo, .one .xthl,
   .three .cpo, .one .pushH, .two .ani, .one .rst4,
   .one .rpe, .one .pchl, .three .jpe, .one .xchg,
   .three .cpe, .unusedThree .unusedED, .two .xri, .one .rst5]

/-- Row F of the map of R101: codes F0 to FF. -/
def opcodeRowF : List Shape :=
  [.one .rp, .one .popPSW, .three .jp, .one .di,
   .three .cp, .one .pushPSW, .two .ori, .one .rst6,
   .one .rm, .one .sphl, .three .jm, .one .ei,
   .three .cm, .unusedThree .unusedFD, .two .cpi, .one .rst7]

/-- The sixteen rows of the map, by the high hexadecimal digit (R101). -/
def opcodeRows : List (List Shape) :=
  [opcodeRow0, opcodeRow1, opcodeRow2, opcodeRow3, opcodeRow4, opcodeRow5, opcodeRow6, opcodeRow7] ++
  [opcodeRow8, opcodeRow9, opcodeRowA, opcodeRowB, opcodeRowC, opcodeRowD, opcodeRowE, opcodeRowF]

/-- The cell of the map of R101 for a first byte. Every row and column is present, so the defaults are never
answered. -/
def shapeOf (op : Byte) : Shape :=
  (opcodeRows.getD (op.toNat / 16) []).getD (op.toNat % 16) (.one .nop)

/-- The length an opcode gives its instruction (R100); the unused codes CB, DD, ED and FD count with the length
they have under the `alias` policy. -/
def opcodeLength (op : Byte) : Nat :=
  match shapeOf op with
  | .one _ => 1
  | .two _ => 2
  | .three _ => 3
  | .unusedThree _ => 3

/-- Why a list of bytes is not the beginning of a program text. -/
inductive DecodeError where
  /-- There is no first byte. -/
  | noBytes
  /-- The bytes end before the operand bytes that this opcode has. -/
  | truncated (opcode : Byte)
  deriving DecidableEq, Repr

/-- Decodes the instruction at the head of a list of bytes and returns it with the bytes behind it (R90, R107). -/
def decode : List Byte → Except DecodeError (Instr × List Byte)
  | [] => .error .noBytes
  | op :: rest =>
    match shapeOf op, rest with
    | .one i, rest => .ok (i, rest)
    | .two f, b2 :: rest => .ok (f b2, rest)
    | .three f, b2 :: b3 :: rest => .ok (f (joinBytes b3 b2), rest)
    | .unusedThree f, b2 :: b3 :: rest => .ok (f (joinBytes b3 b2), rest)
    | _, _ => .error (.truncated op)

/-- The three bytes that an instruction whose bits are `w` occupies: the lowest `nbits` bits of `w`, zeros above
them, byte 1 in bits 7 to 0. -/
def tableBytes (nbits w : Nat) : List Byte :=
  let v := w % 2 ^ nbits
  [BitVec.ofNat 8 v, BitVec.ofNat 8 (v / 256), BitVec.ofNat 8 (v / 65536)]

/-- The instruction the decoder reads from a word numbered as spec/opcode_table.json numbers it. -/
def decodeTableWord (nbits w : Nat) : Option Instr :=
  match decode (tableBytes nbits w) with
  | .ok (i, _) => some i
  | .error _ => none

/-! ## The encoder -/

/-- The 3-bit code of a register (R94). -/
def regCode : Reg → BitVec 3
  | .b => 0b000
  | .c => 0b001
  | .d => 0b010
  | .e => 0b011
  | .h => 0b100
  | .l => 0b101
  | .a => 0b111

/-- The 3-bit code of an 8-bit operand, `110` for M (R94). -/
def operandCode : Operand8 → BitVec 3
  | .reg r => regCode r
  | .m => 0b110

/-- The 2-bit code of a pair (R95). -/
def pairCode : Pair → BitVec 2
  | .rp .bc => 0b00
  | .rp .de => 0b01
  | .rp .hl => 0b10
  | .sp => 0b11

/-- The 3-bit code of a condition (R96). -/
def condCode : Cond → BitVec 3
  | .nz => 0b000
  | .z => 0b001
  | .nc => 0b010
  | .c => 0b011
  | .po => 0b100
  | .pe => 0b101
  | .p => 0b110
  | .m => 0b111

/-- The 3-bit code of an ALU operation (R98). -/
def aluCode : AluOp → BitVec 3
  | .add => 0b000
  | .adc => 0b001
  | .sub => 0b010
  | .sbb => 0b011
  | .ana => 0b100
  | .xra => 0b101
  | .ora => 0b110
  | .cmp => 0b111

/-- The 3-bit restart field (R97). -/
def restartCode (n : Fin 8) : BitVec 3 := BitVec.ofNat 3 n.val

/-- An opcode byte cut as bits 7:6, 5:3 and 2:0 (R94, R96 to R98). -/
def fields233 (top : BitVec 2) (mid low : BitVec 3) : Byte := top ++ mid ++ low

/-- An opcode byte cut as bits 7:6, 5:4 and 3:0 (R95). -/
def fields224 (top pp : BitVec 2) (low : BitVec 4) : Byte := top ++ pp ++ low

/-- The bytes of an instruction: the opcode pattern of its rule, then its operand bytes (R91 to R98, R113). -/
def encode : Instr → List Byte
  | .nop => [0x00]
  | .lxiB d16 => fields224 0b00 (pairCode (.rp .bc)) 0b0001 :: wordBytes d16
  | .staxB => [fields224 0b00 (pairCode (.rp .bc)) 0b0010]
  | .inxB => [fields224 0b00 (pairCode (.rp .bc)) 0b0011]
  | .inrB => [fields233 0b00 (operandCode (.reg .b)) 0b100]
  | .dcrB => [fields233 0b00 (operandCode (.reg .b)) 0b101]
  | .mviB d8 => [fields233 0b00 (operandCode (.reg .b)) 0b110, d8]
  | .rlc => [0x07]
  | .unused08 => [0x08]
  | .dadB => [fields224 0b00 (pairCode (.rp .bc)) 0b1001]
  | .ldaxB => [fields224 0b00 (pairCode (.rp .bc)) 0b1010]
  | .dcxB => [fields224 0b00 (pairCode (.rp .bc)) 0b1011]
  | .inrC => [fields233 0b00 (operandCode (.reg .c)) 0b100]
  | .dcrC => [fields233 0b00 (operandCode (.reg .c)) 0b101]
  | .mviC d8 => [fields233 0b00 (operandCode (.reg .c)) 0b110, d8]
  | .rrc => [0x0F]
  | .unused10 => [0x10]
  | .lxiD d16 => fields224 0b00 (pairCode (.rp .de)) 0b0001 :: wordBytes d16
  | .staxD => [fields224 0b00 (pairCode (.rp .de)) 0b0010]
  | .inxD => [fields224 0b00 (pairCode (.rp .de)) 0b0011]
  | .inrD => [fields233 0b00 (operandCode (.reg .d)) 0b100]
  | .dcrD => [fields233 0b00 (operandCode (.reg .d)) 0b101]
  | .mviD d8 => [fields233 0b00 (operandCode (.reg .d)) 0b110, d8]
  | .ral => [0x17]
  | .unused18 => [0x18]
  | .dadD => [fields224 0b00 (pairCode (.rp .de)) 0b1001]
  | .ldaxD => [fields224 0b00 (pairCode (.rp .de)) 0b1010]
  | .dcxD => [fields224 0b00 (pairCode (.rp .de)) 0b1011]
  | .inrE => [fields233 0b00 (operandCode (.reg .e)) 0b100]
  | .dcrE => [fields233 0b00 (operandCode (.reg .e)) 0b101]
  | .mviE d8 => [fields233 0b00 (operandCode (.reg .e)) 0b110, d8]
  | .rar => [0x1F]
  | .unused20 => [0x20]
  | .lxiH d16 => fields224 0b00 (pairCode (.rp .hl)) 0b0001 :: wordBytes d16
  | .shld adr => 0x22 :: wordBytes adr
  | .inxH => [fields224 0b00 (pairCode (.rp .hl)) 0b0011]
  | .inrH => [fields233 0b00 (operandCode (.reg .h)) 0b100]
  | .dcrH => [fields233 0b00 (operandCode (.reg .h)) 0b101]
  | .mviH d8 => [fields233 0b00 (operandCode (.reg .h)) 0b110, d8]
  | .daa => [0x27]
  | .unused28 => [0x28]
  | .dadH => [fields224 0b00 (pairCode (.rp .hl)) 0b1001]
  | .lhld adr => 0x2A :: wordBytes adr
  | .dcxH => [fields224 0b00 (pairCode (.rp .hl)) 0b1011]
  | .inrL => [fields233 0b00 (operandCode (.reg .l)) 0b100]
  | .dcrL => [fields233 0b00 (operandCode (.reg .l)) 0b101]
  | .mviL d8 => [fields233 0b00 (operandCode (.reg .l)) 0b110, d8]
  | .cma => [0x2F]
  | .unused30 => [0x30]
  | .lxiSP d16 => fields224 0b00 (pairCode .sp) 0b0001 :: wordBytes d16
  | .sta adr => 0x32 :: wordBytes adr
  | .inxSP => [fields224 0b00 (pairCode .sp) 0b0011]
  | .inrM => [fields233 0b00 (operandCode .m) 0b100]
  | .dcrM => [fields233 0b00 (operandCode .m) 0b101]
  | .mviM d8 => [fields233 0b00 (operandCode .m) 0b110, d8]
  | .stc => [0x37]
  | .unused38 => [0x38]
  | .dadSP => [fields224 0b00 (pairCode .sp) 0b1001]
  | .lda adr => 0x3A :: wordBytes adr
  | .dcxSP => [fields224 0b00 (pairCode .sp) 0b1011]
  | .inrA => [fields233 0b00 (operandCode (.reg .a)) 0b100]
  | .dcrA => [fields233 0b00 (operandCode (.reg .a)) 0b101]
  | .mviA d8 => [fields233 0b00 (operandCode (.reg .a)) 0b110, d8]
  | .cmc => [0x3F]
  | .movBB => [fields233 0b01 (operandCode (.reg .b)) (operandCode (.reg .b))]
  | .movBC => [fields233 0b01 (operandCode (.reg .b)) (operandCode (.reg .c))]
  | .movBD => [fields233 0b01 (operandCode (.reg .b)) (operandCode (.reg .d))]
  | .movBE => [fields233 0b01 (operandCode (.reg .b)) (operandCode (.reg .e))]
  | .movBH => [fields233 0b01 (operandCode (.reg .b)) (operandCode (.reg .h))]
  | .movBL => [fields233 0b01 (operandCode (.reg .b)) (operandCode (.reg .l))]
  | .movBM => [fields233 0b01 (operandCode (.reg .b)) (operandCode .m)]
  | .movBA => [fields233 0b01 (operandCode (.reg .b)) (operandCode (.reg .a))]
  | .movCB => [fields233 0b01 (operandCode (.reg .c)) (operandCode (.reg .b))]
  | .movCC => [fields233 0b01 (operandCode (.reg .c)) (operandCode (.reg .c))]
  | .movCD => [fields233 0b01 (operandCode (.reg .c)) (operandCode (.reg .d))]
  | .movCE => [fields233 0b01 (operandCode (.reg .c)) (operandCode (.reg .e))]
  | .movCH => [fields233 0b01 (operandCode (.reg .c)) (operandCode (.reg .h))]
  | .movCL => [fields233 0b01 (operandCode (.reg .c)) (operandCode (.reg .l))]
  | .movCM => [fields233 0b01 (operandCode (.reg .c)) (operandCode .m)]
  | .movCA => [fields233 0b01 (operandCode (.reg .c)) (operandCode (.reg .a))]
  | .movDB => [fields233 0b01 (operandCode (.reg .d)) (operandCode (.reg .b))]
  | .movDC => [fields233 0b01 (operandCode (.reg .d)) (operandCode (.reg .c))]
  | .movDD => [fields233 0b01 (operandCode (.reg .d)) (operandCode (.reg .d))]
  | .movDE => [fields233 0b01 (operandCode (.reg .d)) (operandCode (.reg .e))]
  | .movDH => [fields233 0b01 (operandCode (.reg .d)) (operandCode (.reg .h))]
  | .movDL => [fields233 0b01 (operandCode (.reg .d)) (operandCode (.reg .l))]
  | .movDM => [fields233 0b01 (operandCode (.reg .d)) (operandCode .m)]
  | .movDA => [fields233 0b01 (operandCode (.reg .d)) (operandCode (.reg .a))]
  | .movEB => [fields233 0b01 (operandCode (.reg .e)) (operandCode (.reg .b))]
  | .movEC => [fields233 0b01 (operandCode (.reg .e)) (operandCode (.reg .c))]
  | .movED => [fields233 0b01 (operandCode (.reg .e)) (operandCode (.reg .d))]
  | .movEE => [fields233 0b01 (operandCode (.reg .e)) (operandCode (.reg .e))]
  | .movEH => [fields233 0b01 (operandCode (.reg .e)) (operandCode (.reg .h))]
  | .movEL => [fields233 0b01 (operandCode (.reg .e)) (operandCode (.reg .l))]
  | .movEM => [fields233 0b01 (operandCode (.reg .e)) (operandCode .m)]
  | .movEA => [fields233 0b01 (operandCode (.reg .e)) (operandCode (.reg .a))]
  | .movHB => [fields233 0b01 (operandCode (.reg .h)) (operandCode (.reg .b))]
  | .movHC => [fields233 0b01 (operandCode (.reg .h)) (operandCode (.reg .c))]
  | .movHD => [fields233 0b01 (operandCode (.reg .h)) (operandCode (.reg .d))]
  | .movHE => [fields233 0b01 (operandCode (.reg .h)) (operandCode (.reg .e))]
  | .movHH => [fields233 0b01 (operandCode (.reg .h)) (operandCode (.reg .h))]
  | .movHL => [fields233 0b01 (operandCode (.reg .h)) (operandCode (.reg .l))]
  | .movHM => [fields233 0b01 (operandCode (.reg .h)) (operandCode .m)]
  | .movHA => [fields233 0b01 (operandCode (.reg .h)) (operandCode (.reg .a))]
  | .movLB => [fields233 0b01 (operandCode (.reg .l)) (operandCode (.reg .b))]
  | .movLC => [fields233 0b01 (operandCode (.reg .l)) (operandCode (.reg .c))]
  | .movLD => [fields233 0b01 (operandCode (.reg .l)) (operandCode (.reg .d))]
  | .movLE => [fields233 0b01 (operandCode (.reg .l)) (operandCode (.reg .e))]
  | .movLH => [fields233 0b01 (operandCode (.reg .l)) (operandCode (.reg .h))]
  | .movLL => [fields233 0b01 (operandCode (.reg .l)) (operandCode (.reg .l))]
  | .movLM => [fields233 0b01 (operandCode (.reg .l)) (operandCode .m)]
  | .movLA => [fields233 0b01 (operandCode (.reg .l)) (operandCode (.reg .a))]
  | .movMB => [fields233 0b01 (operandCode .m) (operandCode (.reg .b))]
  | .movMC => [fields233 0b01 (operandCode .m) (operandCode (.reg .c))]
  | .movMD => [fields233 0b01 (operandCode .m) (operandCode (.reg .d))]
  | .movME => [fields233 0b01 (operandCode .m) (operandCode (.reg .e))]
  | .movMH => [fields233 0b01 (operandCode .m) (operandCode (.reg .h))]
  | .movML => [fields233 0b01 (operandCode .m) (operandCode (.reg .l))]
  | .hlt => [0x76]
  | .movMA => [fields233 0b01 (operandCode .m) (operandCode (.reg .a))]
  | .movAB => [fields233 0b01 (operandCode (.reg .a)) (operandCode (.reg .b))]
  | .movAC => [fields233 0b01 (operandCode (.reg .a)) (operandCode (.reg .c))]
  | .movAD => [fields233 0b01 (operandCode (.reg .a)) (operandCode (.reg .d))]
  | .movAE => [fields233 0b01 (operandCode (.reg .a)) (operandCode (.reg .e))]
  | .movAH => [fields233 0b01 (operandCode (.reg .a)) (operandCode (.reg .h))]
  | .movAL => [fields233 0b01 (operandCode (.reg .a)) (operandCode (.reg .l))]
  | .movAM => [fields233 0b01 (operandCode (.reg .a)) (operandCode .m)]
  | .movAA => [fields233 0b01 (operandCode (.reg .a)) (operandCode (.reg .a))]
  | .addB => [fields233 0b10 (aluCode .add) (operandCode (.reg .b))]
  | .addC => [fields233 0b10 (aluCode .add) (operandCode (.reg .c))]
  | .addD => [fields233 0b10 (aluCode .add) (operandCode (.reg .d))]
  | .addE => [fields233 0b10 (aluCode .add) (operandCode (.reg .e))]
  | .addH => [fields233 0b10 (aluCode .add) (operandCode (.reg .h))]
  | .addL => [fields233 0b10 (aluCode .add) (operandCode (.reg .l))]
  | .addM => [fields233 0b10 (aluCode .add) (operandCode .m)]
  | .addA => [fields233 0b10 (aluCode .add) (operandCode (.reg .a))]
  | .adcB => [fields233 0b10 (aluCode .adc) (operandCode (.reg .b))]
  | .adcC => [fields233 0b10 (aluCode .adc) (operandCode (.reg .c))]
  | .adcD => [fields233 0b10 (aluCode .adc) (operandCode (.reg .d))]
  | .adcE => [fields233 0b10 (aluCode .adc) (operandCode (.reg .e))]
  | .adcH => [fields233 0b10 (aluCode .adc) (operandCode (.reg .h))]
  | .adcL => [fields233 0b10 (aluCode .adc) (operandCode (.reg .l))]
  | .adcM => [fields233 0b10 (aluCode .adc) (operandCode .m)]
  | .adcA => [fields233 0b10 (aluCode .adc) (operandCode (.reg .a))]
  | .subB => [fields233 0b10 (aluCode .sub) (operandCode (.reg .b))]
  | .subC => [fields233 0b10 (aluCode .sub) (operandCode (.reg .c))]
  | .subD => [fields233 0b10 (aluCode .sub) (operandCode (.reg .d))]
  | .subE => [fields233 0b10 (aluCode .sub) (operandCode (.reg .e))]
  | .subH => [fields233 0b10 (aluCode .sub) (operandCode (.reg .h))]
  | .subL => [fields233 0b10 (aluCode .sub) (operandCode (.reg .l))]
  | .subM => [fields233 0b10 (aluCode .sub) (operandCode .m)]
  | .subA => [fields233 0b10 (aluCode .sub) (operandCode (.reg .a))]
  | .sbbB => [fields233 0b10 (aluCode .sbb) (operandCode (.reg .b))]
  | .sbbC => [fields233 0b10 (aluCode .sbb) (operandCode (.reg .c))]
  | .sbbD => [fields233 0b10 (aluCode .sbb) (operandCode (.reg .d))]
  | .sbbE => [fields233 0b10 (aluCode .sbb) (operandCode (.reg .e))]
  | .sbbH => [fields233 0b10 (aluCode .sbb) (operandCode (.reg .h))]
  | .sbbL => [fields233 0b10 (aluCode .sbb) (operandCode (.reg .l))]
  | .sbbM => [fields233 0b10 (aluCode .sbb) (operandCode .m)]
  | .sbbA => [fields233 0b10 (aluCode .sbb) (operandCode (.reg .a))]
  | .anaB => [fields233 0b10 (aluCode .ana) (operandCode (.reg .b))]
  | .anaC => [fields233 0b10 (aluCode .ana) (operandCode (.reg .c))]
  | .anaD => [fields233 0b10 (aluCode .ana) (operandCode (.reg .d))]
  | .anaE => [fields233 0b10 (aluCode .ana) (operandCode (.reg .e))]
  | .anaH => [fields233 0b10 (aluCode .ana) (operandCode (.reg .h))]
  | .anaL => [fields233 0b10 (aluCode .ana) (operandCode (.reg .l))]
  | .anaM => [fields233 0b10 (aluCode .ana) (operandCode .m)]
  | .anaA => [fields233 0b10 (aluCode .ana) (operandCode (.reg .a))]
  | .xraB => [fields233 0b10 (aluCode .xra) (operandCode (.reg .b))]
  | .xraC => [fields233 0b10 (aluCode .xra) (operandCode (.reg .c))]
  | .xraD => [fields233 0b10 (aluCode .xra) (operandCode (.reg .d))]
  | .xraE => [fields233 0b10 (aluCode .xra) (operandCode (.reg .e))]
  | .xraH => [fields233 0b10 (aluCode .xra) (operandCode (.reg .h))]
  | .xraL => [fields233 0b10 (aluCode .xra) (operandCode (.reg .l))]
  | .xraM => [fields233 0b10 (aluCode .xra) (operandCode .m)]
  | .xraA => [fields233 0b10 (aluCode .xra) (operandCode (.reg .a))]
  | .oraB => [fields233 0b10 (aluCode .ora) (operandCode (.reg .b))]
  | .oraC => [fields233 0b10 (aluCode .ora) (operandCode (.reg .c))]
  | .oraD => [fields233 0b10 (aluCode .ora) (operandCode (.reg .d))]
  | .oraE => [fields233 0b10 (aluCode .ora) (operandCode (.reg .e))]
  | .oraH => [fields233 0b10 (aluCode .ora) (operandCode (.reg .h))]
  | .oraL => [fields233 0b10 (aluCode .ora) (operandCode (.reg .l))]
  | .oraM => [fields233 0b10 (aluCode .ora) (operandCode .m)]
  | .oraA => [fields233 0b10 (aluCode .ora) (operandCode (.reg .a))]
  | .cmpB => [fields233 0b10 (aluCode .cmp) (operandCode (.reg .b))]
  | .cmpC => [fields233 0b10 (aluCode .cmp) (operandCode (.reg .c))]
  | .cmpD => [fields233 0b10 (aluCode .cmp) (operandCode (.reg .d))]
  | .cmpE => [fields233 0b10 (aluCode .cmp) (operandCode (.reg .e))]
  | .cmpH => [fields233 0b10 (aluCode .cmp) (operandCode (.reg .h))]
  | .cmpL => [fields233 0b10 (aluCode .cmp) (operandCode (.reg .l))]
  | .cmpM => [fields233 0b10 (aluCode .cmp) (operandCode .m)]
  | .cmpA => [fields233 0b10 (aluCode .cmp) (operandCode (.reg .a))]
  | .rnz => [fields233 0b11 (condCode .nz) 0b000]
  | .popB => [fields224 0b11 (pairCode (.rp .bc)) 0b0001]
  | .jnz adr => fields233 0b11 (condCode .nz) 0b010 :: wordBytes adr
  | .jmp adr => 0xC3 :: wordBytes adr
  | .cnz adr => fields233 0b11 (condCode .nz) 0b100 :: wordBytes adr
  | .pushB => [fields224 0b11 (pairCode (.rp .bc)) 0b0101]
  | .adi d8 => [fields233 0b11 (aluCode .add) 0b110, d8]
  | .rst0 => [fields233 0b11 (restartCode 0) 0b111]
  | .rz => [fields233 0b11 (condCode .z) 0b000]
  | .ret => [0xC9]
  | .jz adr => fields233 0b11 (condCode .z) 0b010 :: wordBytes adr
  | .unusedCB adr => 0xCB :: wordBytes adr
  | .cz adr => fields233 0b11 (condCode .z) 0b100 :: wordBytes adr
  | .call adr => 0xCD :: wordBytes adr
  | .aci d8 => [fields233 0b11 (aluCode .adc) 0b110, d8]
  | .rst1 => [fields233 0b11 (restartCode 1) 0b111]
  | .rnc => [fields233 0b11 (condCode .nc) 0b000]
  | .popD => [fields224 0b11 (pairCode (.rp .de)) 0b0001]
  | .jnc adr => fields233 0b11 (condCode .nc) 0b010 :: wordBytes adr
  | .outN n => [0xD3, n]
  | .cnc adr => fields233 0b11 (condCode .nc) 0b100 :: wordBytes adr
  | .pushD => [fields224 0b11 (pairCode (.rp .de)) 0b0101]
  | .sui d8 => [fields233 0b11 (aluCode .sub) 0b110, d8]
  | .rst2 => [fields233 0b11 (restartCode 2) 0b111]
  | .rc => [fields233 0b11 (condCode .c) 0b000]
  | .unusedD9 => [0xD9]
  | .jc adr => fields233 0b11 (condCode .c) 0b010 :: wordBytes adr
  | .inN n => [0xDB, n]
  | .cc adr => fields233 0b11 (condCode .c) 0b100 :: wordBytes adr
  | .unusedDD adr => 0xDD :: wordBytes adr
  | .sbi d8 => [fields233 0b11 (aluCode .sbb) 0b110, d8]
  | .rst3 => [fields233 0b11 (restartCode 3) 0b111]
  | .rpo => [fields233 0b11 (condCode .po) 0b000]
  | .popH => [fields224 0b11 (pairCode (.rp .hl)) 0b0001]
  | .jpo adr => fields233 0b11 (condCode .po) 0b010 :: wordBytes adr
  | .xthl => [0xE3]
  | .cpo adr => fields233 0b11 (condCode .po) 0b100 :: wordBytes adr
  | .pushH => [fields224 0b11 (pairCode (.rp .hl)) 0b0101]
  | .ani d8 => [fields233 0b11 (aluCode .ana) 0b110, d8]
  | .rst4 => [fields233 0b11 (restartCode 4) 0b111]
  | .rpe => [fields233 0b11 (condCode .pe) 0b000]
  | .pchl => [0xE9]
  | .jpe adr => fields233 0b11 (condCode .pe) 0b010 :: wordBytes adr
  | .xchg => [0xEB]
  | .cpe adr => fields233 0b11 (condCode .pe) 0b100 :: wordBytes adr
  | .unusedED adr => 0xED :: wordBytes adr
  | .xri d8 => [fields233 0b11 (aluCode .xra) 0b110, d8]
  | .rst5 => [fields233 0b11 (restartCode 5) 0b111]
  | .rp => [fields233 0b11 (condCode .p) 0b000]
  | .popPSW => [fields224 0b11 0b11 0b0001]
  | .jp adr => fields233 0b11 (condCode .p) 0b010 :: wordBytes adr
  | .di => [0xF3]
  | .cp adr => fields233 0b11 (condCode .p) 0b100 :: wordBytes adr
  | .pushPSW => [fields224 0b11 0b11 0b0101]
  | .ori d8 => [fields233 0b11 (aluCode .ora) 0b110, d8]
  | .rst6 => [fields233 0b11 (restartCode 6) 0b111]
  | .rm => [fields233 0b11 (condCode .m) 0b000]
  | .sphl => [0xF9]
  | .jm adr => fields233 0b11 (condCode .m) 0b010 :: wordBytes adr
  | .ei => [0xFB]
  | .cm adr => fields233 0b11 (condCode .m) 0b100 :: wordBytes adr
  | .unusedFD adr => 0xFD :: wordBytes adr
  | .cpi d8 => [fields233 0b11 (aluCode .cmp) 0b110, d8]
  | .rst7 => [fields233 0b11 (restartCode 7) 0b111]

end Sys2Proof
end

