-- ==== Sys2Proof/Machine/State.lean ====
section
/-! DEFINITION. The state of the machine as plain data, the ways a step can stop, and the state after reset. -/

namespace Sys2Proof.Machine

/-- The five status flags, the whole state of F (R30). -/
structure Flags where
  s : Bool
  z : Bool
  ac : Bool
  p : Bool
  cy : Bool
  deriving DecidableEq, Repr

/-- The five flags by name (R30). -/
inductive FlagName where
  | s | z | ac | p | cy
  deriving DecidableEq, Repr

/-- A piece of state without a value after power-on that R351 follows until it is first written: a register, a flag,
SP (R48; log 14). -/
inductive Item where
  | reg (r : Reg)
  | flag (f : FlagName)
  | sp
  deriving DecidableEq, Repr

/-- Memory: the cells that do not read as `Config.unwrittenByte`, by rising address (R60; log 5). -/
abbrev Memory := List Host.Cell

/-- The canonical form of a memory: addresses strictly rising and below 65 536, and no entry equal to what an
unlisted address reads as. -/
abbrev Memory.wf (m : Memory) : Prop :=
  m.Pairwise (fun x y => x.1 < y.1) ∧ ∀ x ∈ m, x.1 < 65536 ∧ x.2 ≠ Config.unwrittenByte

/-- The state: the processor's registers, flags and control bits (R20 to R42), memory (R60), and the processor's
surroundings as plain data (R6, R355). -/
structure State where
  /-- Accumulator (R20). -/
  a : Byte
  b : Byte
  c : Byte
  d : Byte
  e : Byte
  h : Byte
  l : Byte
  /-- Flag register (R30). -/
  f : Flags
  /-- Stack pointer (R24). -/
  sp : Word
  /-- Program counter (R25). -/
  pc : Word
  /-- Interrupt enable (R40). -/
  inte : Bool
  /-- EI takes effect one instruction late (R41). -/
  eiDelay : Bool
  /-- The stop state (R42). -/
  halted : Bool
  /-- Memory (R60). -/
  mem : Memory
  /-- The event history, oldest first (R64, R65). -/
  history : List IoEvent
  /-- What the environment does at the coming boundaries; past the end it does nothing (R321, R325; log 11). -/
  inputs : List BoundaryInput
  /-- The bytes the environment has ready for the coming port and device reads; past the end every such byte is a
  free value (R64; log 9). -/
  answers : List Byte
  /-- The MODEL's own field: how many reads of absent memory have been answered (R62; log 10). -/
  draws : Nat
  /-- The MODEL's own field: the registers and flags that an instruction or an interrupt entry has written since
  power-on (R351; log 14). -/
  written : List Item
  /-- The parameters of R6; no step changes them. -/
  params : Params
  deriving DecidableEq, Repr

/-- The faults of the model, each with the state the run ends in; a closed list. -/
inductive Fault where
  /-- R311. Raised under `UNDEF_OPCODE_POLICY = fault` by each of the twelve unused codes: fetched from address `addr`,
  or supplied by an interrupting device (`none`: it was fetched from no address; log 15). `final` is the state in
  which the run ends: PC past the byte of a fetched code, nothing else changed (log 18). Safe: the spec makes the
  run end here, so nothing is claimed of what the chip does next. -/
  | undefinedOpcode (opcode : Byte) (addr : Option Word) (final : State)
  /-- R351. Raised under `RESET_UNSPECIFIED = fault_on_read` by an instruction or an interrupt entry that reads a
  register or flag nothing has written since power-on. `final` is the state in which it would have been carried out
  (log 14). Safe: a checking mode of the spec, in which fewer runs go on than on the chip. -/
  | unwrittenRead (item : Item) (final : State)
  deriving DecidableEq, Repr

/-- The refusals of the model; a closed list. -/
inductive Refusal where
  /-- Raised by `exec` for an instruction that has no meaning yet; no arm does so. Safe. -/
  | notModelled (mnemonic : String)
  /-- Raised at interrupt entry when the device supplies an instruction other than RST n, CALL ADR or an unused
  code (R322, U9). Safe: the spec refuses such an environment. -/
  | suppliedInstruction (opcode : Byte)
  /-- Raised at interrupt entry when the device supplies no byte, or a CALL without both its address bytes (R322;
  log 16). Safe. -/
  | suppliedIncomplete (bytes : List Byte)
  deriving DecidableEq, Repr

/-- What an instruction or a step answers. -/
abbrev Result := Host.Outcome State Fault Refusal

/-- The machine right after power-on and reset: PC, INTE, EIDelay and Halted as R48 and R350 give them, the
parameters at the defaults of R6; every value the spec leaves open as log 2 to 5, 9, 10, 11 and 14
name it. -/
def State.reset : State :=
  { a := 0x00, b := 0x00, c := 0x00, d := 0x00, e := 0x00, h := 0x00, l := 0x00
    f := { s := false, z := false, ac := false, p := false, cy := false }
    sp := 0x0000
    pc := 0x0000
    inte := false
    eiDelay := false
    halted := false
    mem := []
    history := []
    inputs := []
    answers := []
    draws := 0
    written := []
    params := Params.default }

end Sys2Proof.Machine
end

