-- ==== Sys2Proof/Machine/Flags.lean ====
section
/-! DEFINITION. Every flag computation of the spec: R31 to R37, the helpers R50 to R52, the byte form R33, the
conditions R251, and the flag side of each arithmetic and logic operation. -/

namespace Sys2Proof.Machine

/-- P of a result byte: 1 exactly when it has an even number of one bits (R35). -/
def evenParity (v : Byte) : Bool :=
  !(v.getLsbD 7 ^^ v.getLsbD 6 ^^ v.getLsbD 5 ^^ v.getLsbD 4 ^^ v.getLsbD 3 ^^ v.getLsbD 2 ^^ v.getLsbD 1 ^^ v.getLsbD 0)

/-- `zsp(v)`: Z, S and P from a result byte; CY and AC stay (R50, with R31, R32 and R35). -/
def zsp (v : Byte) (f : Flags) : Flags :=
  { f with z := v == 0, s := v.getLsbD 7, p := evenParity v }

/-- `v[3:0]` as a number. -/
def lowNibble (v : Byte) : Nat := v.toNat % 16

/-- `v[7:4]` as a number. -/
def highNibble (v : Byte) : Nat := v.toNat / 16

/-- Flags whose Z, S and P are those of a result byte, with AC and CY as given. -/
def resultFlags (v : Byte) (ac cy : Bool) : Flags :=
  zsp v { s := false, z := false, ac := ac, p := false, cy := cy }

/-- `add8(a, b, cin)` (R51). -/
def add8 (a b : Byte) (cin : Bool) : Byte × Flags :=
  let t := a.toNat + b.toNat + cin.toNat
  let r := BitVec.ofNat 8 t
  (r, resultFlags r (decide (lowNibble a + lowNibble b + cin.toNat > 15)) (decide (t > 255)))

/-- `sub8(a, b, bin)` (R52): the addition of the complement, CY the borrow. -/
def sub8 (a b : Byte) (bin : Bool) : Byte × Flags :=
  let nb := ~~~b
  let t := a.toNat + nb.toNat + (1 - bin.toNat)
  let r := BitVec.ofNat 8 t
  (r, resultFlags r (decide (lowNibble a + lowNibble nb + (1 - bin.toNat) > 15)) (decide (t ≤ 255)))

/-- The result and flags of a logic instruction: Z, S, P from the result, CY = 0, AC as given (R208 to R213). -/
def logic8 (r : Byte) (ac : Bool) : Byte × Flags :=
  (r, resultFlags r ac false)

/-- AC after ANA and ANI under the two values of `ANA_AC_POLICY` (R208). -/
def anaAuxCarry (policy : AnaAcPolicy) (a v : Byte) : Bool :=
  match policy with
  | .zero => false
  | .orBit3 => (a ||| v).getLsbD 3

/-- A and the flags after an 8-bit operation of group 6 on A and the second operand (R200 to R215). -/
def aluResult (policy : AnaAcPolicy) (op : AluOp) (a v : Byte) (f : Flags) : Byte × Flags :=
  match op with
  | .add => add8 a v false
  | .adc => add8 a v f.cy
  | .sub => sub8 a v false
  | .sbb => sub8 a v f.cy
  | .ana => logic8 (a &&& v) (anaAuxCarry policy a v)
  | .xra => logic8 (a ^^^ v) false
  | .ora => logic8 (a ||| v) false
  | .cmp => (a, (sub8 a v false).2)

/-- The result and flags of INR; CY stays (R184). -/
def increment8 (v : Byte) (f : Flags) : Byte × Flags :=
  let t := v + 1
  (t, zsp t { f with ac := decide (lowNibble v = 15) })

/-- The result and flags of DCR; CY stays (R185). -/
def decrement8 (v : Byte) (f : Flags) : Byte × Flags :=
  let t := v - 1
  (t, zsp t { f with ac := decide (lowNibble v ≠ 0) })

/-- Whether DAA adds 6 to the low digit (R183). -/
def adjustsLow (a : Byte) (f : Flags) : Bool :=
  f.ac || decide (lowNibble a > 9)

/-- Whether DAA adds 6 to the high digit (R183). -/
def adjustsHigh (a : Byte) (f : Flags) : Bool :=
  f.cy || decide (highNibble a > 9) || decide (highNibble a ≥ 9 ∧ lowNibble a > 9)

/-- A and the flags after DAA (R183). -/
def adjustDecimal (a : Byte) (f : Flags) : Byte × Flags :=
  let corr : Byte := (if adjustsLow a f then 0x06 else 0x00) ||| (if adjustsHigh a f then 0x60 else 0x00)
  let r := add8 a corr false
  (r.1, { r.2 with cy := adjustsHigh a f })

/-- `pack(F)`: the byte `S Z 0 AC 0 P 1 CY` (R33). -/
def packFlags (f : Flags) : Byte :=
  BitVec.ofBool f.s ++ BitVec.ofBool f.z ++ 0#1 ++ BitVec.ofBool f.ac ++ 0#1 ++ BitVec.ofBool f.p ++ 1#1 ++
    BitVec.ofBool f.cy

/-- `unpack(b)`: the flags from bits 7, 6, 4, 2 and 0; bits 5, 3 and 1 are ignored (R33). -/
def unpackFlags (v : Byte) : Flags :=
  { s := v.getLsbD 7, z := v.getLsbD 6, ac := v.getLsbD 4, p := v.getLsbD 2, cy := v.getLsbD 0 }

/-- `cond(ccc)` (R251). -/
def condHolds (cond : Cond) (f : Flags) : Bool :=
  match cond with
  | .nz => !f.z
  | .z => f.z
  | .nc => !f.cy
  | .c => f.cy
  | .po => !f.p
  | .pe => f.p
  | .p => !f.s
  | .m => f.s

end Sys2Proof.Machine
end

