-- ==== Sys2Proof/Machine/Ops.lean ====
section
/-! DEFINITION. The named operations: memory cells, MemRead and MemWrite (R62, R63), ports (R64, R65), the stack
(R82, R83), transfer of control (R250), reset (R350), interrupt entry and the return from it (R322 to R324). -/

namespace Sys2Proof.Machine

/-! ## Cells -/

/-- The byte a memory holds at an address; an unlisted cell reads as `Config.unwrittenByte` (log 5). -/
def readCell : Memory → Nat → Byte
  | [], _ => Config.unwrittenByte
  | (k, v) :: m, n => if k = n then v else readCell m n

/-- Puts an entry before the first higher address. -/
def insertCell (n : Nat) (v : Byte) : Memory → Memory
  | [] => [(n, v)]
  | (k, w) :: m => if n < k then (n, v) :: (k, w) :: m else (k, w) :: insertCell n v m

/-- The memory after storing a byte: the old entry goes, and a new one comes unless the byte is what an unlisted
cell reads as. -/
def writeCell (m : Memory) (n : Nat) (v : Byte) : Memory :=
  let rest := m.filter (fun x => x.1 != n)
  if v = Config.unwrittenByte then rest else insertCell n v rest

/-! ## MemRead and MemWrite -/

/-- Whether a region holds an address. -/
def inRegion (n : Nat) (r : Region) : Bool :=
  decide (r.base ≤ n ∧ n < r.base + r.size)

/-- `MEM_KIND(addr)`: the kind of the first region that holds it, `ram` where none does (R6). -/
def memKind (p : Params) (a : Word) : MemKind :=
  match p.memMap.find? (inRegion a.toNat) with
  | some r => r.kind
  | none => .ram

/-- The byte the environment gives for a port or device read: the next one it has ready, or the free value
(R64; log 9). -/
def environmentByte (free : Byte) (s : State) : Byte × State :=
  match s.answers with
  | [] => (free, s)
  | v :: rest => (v, { s with answers := rest })

/-- The state with an event at the end of the history (R64, R65). -/
def withEvent (e : IoEvent) (s : State) : State :=
  { s with history := s.history ++ [e] }

/-- `MemRead(addr, 1)` (R62). -/
def memRead (a : Word) (s : State) : Byte × State :=
  match memKind s.params a with
  | .ram => (readCell s.mem a.toNat, s)
  | .rom => (readCell s.mem a.toNat, s)
  | .absent => (Config.absentByte s.draws, { s with draws := s.draws + 1 })
  | .device =>
    let v := environmentByte (Config.deviceOracle a s.history) s
    (v.1, withEvent (.deviceRead a v.1) v.2)

/-- `MemWrite(addr, 1, v)` (R63). -/
def memWrite (a : Word) (v : Byte) (s : State) : State :=
  match memKind s.params a with
  | .ram => { s with mem := writeCell s.mem a.toNat v }
  | .rom => s
  | .absent => s
  | .device => withEvent (.deviceWrite a v) s

/-! ## Ports -/

/-- `IoRead(port)` (R64). -/
def ioRead (port : Byte) (s : State) : Byte × State :=
  let v := environmentByte (Config.inOracle port s.history) s
  (v.1, withEvent (.portRead port v.1) v.2)

/-- `IoWrite(port, v)` (R65). -/
def ioWrite (port v : Byte) (s : State) : State :=
  withEvent (.portWrite port v) s

/-! ## Stack and transfer of control -/

/-- `Push16(v)`: high byte at SP - 1, then low byte at SP - 2, then SP (R82). -/
def push16 (v : Word) (s : State) : State :=
  { memWrite (s.sp - 2) (lowByte v) (memWrite (s.sp - 1) (highByte v) s) with sp := s.sp - 2 }

/-- `Pop16()`: low byte at SP, then high byte at SP + 1, then SP (R83). -/
def pop16 (s : State) : Word × State :=
  let lo := memRead s.sp s
  let hi := memRead (s.sp + 1) lo.2
  (joinBytes hi.1 lo.1, { hi.2 with sp := s.sp + 2 })

/-- `PC <- target` (R249). -/
def jumpTo (target : Word) (s : State) : State :=
  { s with pc := target }

/-- `Push16(PC)`; `PC <- target`: every call (R250). -/
def callTo (target : Word) (s : State) : State :=
  jumpTo target (push16 s.pc s)

/-- The entry address of RST n: `8 * n` (R264, Table 4). -/
def restartAddress (n : Fin 8) : Word :=
  BitVec.ofNat 16 (8 * n.val)

/-! ## Reset, the interrupt and the return from it -/

/-- The reset event (R350): PC, INTE, EIDelay and Halted, and nothing else. -/
def applyReset (s : State) : State :=
  { s with pc := 0x0000, inte := false, eiDelay := false, halted := false }

/-- Whether a request present at this boundary is accepted (R321). -/
def acceptsRequest (s : State) : Bool :=
  s.inte && !s.eiDelay

/-- Points (1) and (2) of R322: INTE and Halted are cleared. -/
def beginEntry (s : State) : State :=
  { s with inte := false, halted := false }

/-- Taking the interrupt, the one exception entry of the machine (R322): INTE and Halted are cleared, the supplied
RST or CALL pushes the unadvanced PC and goes to its target, EIDelay is cleared. Nothing else is saved. -/
def enterInterrupt (target : Word) (s : State) : State :=
  { callTo target (beginEntry s) with eiDelay := false }

/-- `PC <- Pop16()`: the return from a subroutine and from an interrupt handler, which is the same (R263, R324). -/
def returnFrom (s : State) : State :=
  let v := pop16 s
  jumpTo v.1 v.2

/-! ## Step (5) of R26 -/

/-- Whether an instruction is EI, the one after which EIDelay stays (R26, R41). -/
def isEnableInterrupts : Instr → Bool
  | .ei => true
  | _ => false

/-- Step (5) of R26: if the instruction was not EI, `EIDelay <- 0`. -/
def finishStep (i : Instr) (o : Result) : Result :=
  match o with
  | .next t => .next (if isEnableInterrupts i then t else { t with eiDelay := false })
  | .fault r => .fault r
  | .refused r => .refused r

end Sys2Proof.Machine
end

