-- ==== Sys2Proof/Machine/Operands.lean ====
section
/-! DEFINITION. Every operand form of R108: registers, M, pairs, SP, and the fetch of operand bytes. -/

namespace Sys2Proof.Machine

/-- `x[c]` (R9). -/
def getReg (r : Reg) (s : State) : Byte :=
  match r with
  | .b => s.b
  | .c => s.c
  | .d => s.d
  | .e => s.e
  | .h => s.h
  | .l => s.l
  | .a => s.a

/-- `x[c] <- v` (R9). -/
def setReg (r : Reg) (v : Byte) (s : State) : State :=
  match r with
  | .b => { s with b := v }
  | .c => { s with c := v }
  | .d => { s with d := v }
  | .e => { s with e := v }
  | .h => { s with h := v }
  | .l => { s with l := v }
  | .a => { s with a := v }

/-- `HL = H ++ L`, the address of M (R21, R22). -/
def regHL (s : State) : Word := joinBytes s.h s.l

/-- The value of a register pair, the first-named register in the high half (R21). -/
def getRegPair (p : RegPair) (s : State) : Word :=
  match p with
  | .bc => joinBytes s.b s.c
  | .de => joinBytes s.d s.e
  | .hl => regHL s

/-- Writing a pair writes both its halves (R9, R21). -/
def setRegPair (p : RegPair) (v : Word) (s : State) : State :=
  match p with
  | .bc => { s with b := highByte v, c := lowByte v }
  | .de => { s with d := highByte v, e := lowByte v }
  | .hl => { s with h := highByte v, l := lowByte v }

/-- `rp[c]` (R9). -/
def getPair (p : Pair) (s : State) : Word :=
  match p with
  | .rp q => getRegPair q s
  | .sp => s.sp

/-- `rp[c] <- v` (R9). -/
def setPair (p : Pair) (v : Word) (s : State) : State :=
  match p with
  | .rp q => setRegPair q v s
  | .sp => { s with sp := v }

/-- `get8(c)`: a register, or `MemRead(HL, 1)` for M (R9). -/
def get8 (o : Operand8) (s : State) : Byte × State :=
  match o with
  | .reg r => (getReg r s, s)
  | .m => memRead (regHL s) s

/-- `set8(c, v)`: a register, or `MemWrite(HL, 1, v)` for M (R9). -/
def set8 (o : Operand8) (v : Byte) (s : State) : State :=
  match o with
  | .reg r => setReg r v s
  | .m => memWrite (regHL s) v s

/-! ## Fetch -/

/-- `Fetch8()`: `MemRead(PC, 1)`, then PC advances by 1 (R10, R66). -/
def fetch8 (s : State) : Byte × State :=
  let v := memRead s.pc s
  (v.1, { v.2 with pc := s.pc + 1 })

/-- `Fetch16()`: the low byte, then the high byte (R10). -/
def fetch16 (s : State) : Word × State :=
  let lo := fetch8 s
  let hi := fetch8 lo.2
  (joinBytes hi.1 lo.1, hi.2)

/-- Steps (1) to (3) of R26: the opcode, then as many operand bytes as it has, each read once (R66). An unused code
is found before any operand is fetched under the `fault` policy (R325), and has the length of the instruction it
runs as under `alias` (R100, R105; log 15). -/
def fetchInstr (s : State) : Instr × State :=
  let op := fetch8 s
  match shapeOf op.1 with
  | .one i => (i, op.2)
  | .two f =>
    let v := fetch8 op.2
    (f v.1, v.2)
  | .three f =>
    let v := fetch16 op.2
    (f v.1, v.2)
  | .unusedThree f =>
    match s.params.undefOpcode with
    | .fault => (f 0x0000, op.2)
    | .aliased =>
      let v := fetch16 op.2
      (f v.1, v.2)

end Sys2Proof.Machine
end

