-- ==== Sys2Proof/Machine/Uses.lean ====
section
/-! DEFINITION. `RESET_UNSPECIFIED = fault_on_read` (R6, R351; log 14): which registers and flags each instruction
reads and writes (R23, R38, R39), the check that what is read has been written, and the marking of what is written. -/

namespace Sys2Proof.Machine

/-- Every tracked register and flag (R48). -/
def allItems : List Item :=
  [.reg .a, .reg .b, .reg .c, .reg .d, .reg .e, .reg .h, .reg .l,
   .flag .s, .flag .z, .flag .ac, .flag .p, .flag .cy, .sp]

/-- The state in which items are marked as written; the marks stand in the order of `allItems`. -/
def markItems (ws : List Item) (s : State) : State :=
  { s with written := allItems.filter (fun x => s.written.contains x || ws.contains x) }

/-- The tracked registers and flags that an instruction reads and those it writes. -/
structure Uses where
  reads : List Item
  writes : List Item
  deriving DecidableEq, Repr

/-- The first item of a list that a state has not seen written, under `fault_on_read`; none under `any_value`. -/
def firstUnwritten (reads : List Item) (s : State) : Option Item :=
  match s.params.resetUnspecified with
  | .anyValue => none
  | .faultOnRead => reads.find? (fun x => !s.written.contains x)

/-- An operation that starts in `s` and answers `o`, with what it reads checked and what it writes marked (R351). -/
def checked (u : Uses) (s : State) (o : Result) : Result :=
  match firstUnwritten u.reads s with
  | some x => .fault (.unwrittenRead x s)
  | none =>
    match o with
    | .next t => .next (markItems u.writes t)
    | .fault r => .fault r
    | .refused r => .refused r

/-! ## The items of an operand -/

/-- All five flags. -/
def flagItems : List Item := [.flag .s, .flag .z, .flag .ac, .flag .p, .flag .cy]

/-- Z, S, P and AC: the flags of INR and DCR (R38). -/
def countFlagItems : List Item := [.flag .s, .flag .z, .flag .ac, .flag .p]

/-- The halves of a register pair (R21). -/
def regPairItems : RegPair → List Item
  | .bc => [.reg .b, .reg .c]
  | .de => [.reg .d, .reg .e]
  | .hl => [.reg .h, .reg .l]

/-- The halves of a pair, or SP. -/
def pairItems : Pair → List Item
  | .rp p => regPairItems p
  | .sp => [.sp]

/-- What reading an operand reads: the register, or H and L, which address M (R22). -/
def operandItems : Operand8 → List Item
  | .reg r => [.reg r]
  | .m => [.reg .h, .reg .l]

/-- What writing an operand writes: the register; M is memory. -/
def targetItems : Operand8 → List Item
  | .reg r => [.reg r]
  | .m => []

/-- The flag a condition tests (R251). -/
def condItem : Cond → Item
  | .nz => .flag .z
  | .z => .flag .z
  | .nc => .flag .cy
  | .c => .flag .cy
  | .po => .flag .p
  | .pe => .flag .p
  | .p => .flag .s
  | .m => .flag .s

/-- The carry in of an operation of group 6 (R39). -/
def carryItems : AluOp → List Item
  | .add => []
  | .adc => [.flag .cy]
  | .sub => []
  | .sbb => [.flag .cy]
  | .ana => []
  | .xra => []
  | .ora => []
  | .cmp => []

/-- What an operation of group 6 writes besides the flags: A, but for CMP and CPI (R214). -/
def resultItems : AluOp → List Item
  | .add => [.reg .a]
  | .adc => [.reg .a]
  | .sub => [.reg .a]
  | .sbb => [.reg .a]
  | .ana => [.reg .a]
  | .xra => [.reg .a]
  | .ora => [.reg .a]
  | .cmp => []

/-! ## The rows of R23, with the flags of R38 and R39 -/

/-- Nothing read, nothing written. -/
def noUses : Uses := { reads := [], writes := [] }

/-- MOV r1,r2. -/
def movUses (dst src : Reg) : Uses := { reads := [.reg src], writes := [.reg dst] }

/-- INR and DCR, on a register or M. -/
def countUses (o : Operand8) : Uses := { reads := operandItems o, writes := targetItems o ++ countFlagItems }

/-- INX and DCX. -/
def stepPairUses (p : Pair) : Uses := { reads := pairItems p, writes := pairItems p }

/-- The ALU instructions with a register or M. -/
def aluUses (op : AluOp) (o : Operand8) : Uses :=
  { reads := [.reg .a] ++ operandItems o ++ carryItems op, writes := resultItems op ++ flagItems }

/-- The ALU instructions with D8. -/
def aluByteUses (op : AluOp) : Uses :=
  { reads := [.reg .a] ++ carryItems op, writes := resultItems op ++ flagItems }

/-- DAD. -/
def dadUses (p : Pair) : Uses :=
  { reads := [.reg .h, .reg .l] ++ pairItems p, writes := [.reg .h, .reg .l, .flag .cy] }

/-- PUSH: what it pushes, and SP. -/
def pushUses (xs : List Item) : Uses := { reads := xs ++ [.sp], writes := [.sp] }

/-- POP: what it pops into, and SP. -/
def popUses (xs : List Item) : Uses := { reads := [.sp], writes := xs ++ [.sp] }

/-- CALL, RST and RET: SP is read and written. -/
def stackUses : Uses := { reads := [.sp], writes := [.sp] }

/-- A conditional jump: the flag of its condition. -/
def jumpIfUses (cond : Cond) : Uses := { reads := [condItem cond], writes := [] }

/-- A conditional call or return: the flag of its condition, and SP if the condition is true (R250). -/
def stackIfUses (cond : Cond) (s : State) : Uses :=
  if condHolds cond s.f then { reads := [condItem cond, .sp], writes := [.sp] }
  else { reads := [condItem cond], writes := [] }

/-- An unused code: nothing under `fault`; under `alias` what the documented instruction uses (R105). -/
def unusedUses (documented : Uses) (s : State) : Uses :=
  match s.params.undefOpcode with
  | .fault => noUses
  | .aliased => documented

/-- The tracked registers and flags that an instruction reads and writes when it is carried out in a state: the tables
of R23 (registers and SP) and R38 (flags written) and the list of R39 (flags read). A flag that an instruction leaves
as it was is neither read nor written. -/
def uses (i : Instr) (s : State) : Uses :=
  match i with
  | .nop => noUses
  | .lxiB _ => { reads := [], writes := pairItems (.rp .bc) }
  | .staxB => { reads := .reg .a :: regPairItems .bc, writes := [] }
  | .inxB => stepPairUses (.rp .bc)
  | .inrB => countUses (.reg .b)
  | .dcrB => countUses (.reg .b)
  | .mviB _ => { reads := [], writes := [.reg .b] }
  | .rlc => { reads := [.reg .a], writes := [.reg .a, .flag .cy] }
  | .unused08 => unusedUses noUses s
  | .dadB => dadUses (.rp .bc)
  | .ldaxB => { reads := regPairItems .bc, writes := [.reg .a] }
  | .dcxB => stepPairUses (.rp .bc)
  | .inrC => countUses (.reg .c)
  | .dcrC => countUses (.reg .c)
  | .mviC _ => { reads := [], writes := [.reg .c] }
  | .rrc => { reads := [.reg .a], writes := [.reg .a, .flag .cy] }
  | .unused10 => unusedUses noUses s
  | .lxiD _ => { reads := [], writes := pairItems (.rp .de) }
  | .staxD => { reads := .reg .a :: regPairItems .de, writes := [] }
  | .inxD => stepPairUses (.rp .de)
  | .inrD => countUses (.reg .d)
  | .dcrD => countUses (.reg .d)
  | .mviD _ => { reads := [], writes := [.reg .d] }
  | .ral => { reads := [.reg .a, .flag .cy], writes := [.reg .a, .flag .cy] }
  | .unused18 => unusedUses noUses s
  | .dadD => dadUses (.rp .de)
  | .ldaxD => { reads := regPairItems .de, writes := [.reg .a] }
  | .dcxD => stepPairUses (.rp .de)
  | .inrE => countUses (.reg .e)
  | .dcrE => countUses (.reg .e)
  | .mviE _ => { reads := [], writes := [.reg .e] }
  | .rar => { reads := [.reg .a, .flag .cy], writes := [.reg .a, .flag .cy] }
  | .unused20 => unusedUses noUses s
  | .lxiH _ => { reads := [], writes := pairItems (.rp .hl) }
  | .shld _ => { reads := [.reg .h, .reg .l], writes := [] }
  | .inxH => stepPairUses (.rp .hl)
  | .inrH => countUses (.reg .h)
  | .dcrH => countUses (.reg .h)
  | .mviH _ => { reads := [], writes := [.reg .h] }
  | .daa => { reads := [.reg .a, .flag .cy, .flag .ac], writes := .reg .a :: flagItems }
  | .unused28 => unusedUses noUses s
  | .dadH => dadUses (.rp .hl)
  | .lhld _ => { reads := [], writes := [.reg .h, .reg .l] }
  | .dcxH => stepPairUses (.rp .hl)
  | .inrL => countUses (.reg .l)
  | .dcrL => countUses (.reg .l)
  | .mviL _ => { reads := [], writes := [.reg .l] }
  | .cma => { reads := [.reg .a], writes := [.reg .a] }
  | .unused30 => unusedUses noUses s
  | .lxiSP _ => { reads := [], writes := pairItems .sp }
  | .sta _ => { reads := [.reg .a], writes := [] }
  | .inxSP => stepPairUses .sp
  | .inrM => countUses .m
  | .dcrM => countUses .m
  | .mviM _ => { reads := [.reg .h, .reg .l], writes := [] }
  | .stc => { reads := [], writes := [.flag .cy] }
  | .unused38 => unusedUses noUses s
  | .dadSP => dadUses .sp
  | .lda _ => { reads := [], writes := [.reg .a] }
  | .dcxSP => stepPairUses .sp
  | .inrA => countUses (.reg .a)
  | .dcrA => countUses (.reg .a)
  | .mviA _ => { reads := [], writes := [.reg .a] }
  | .cmc => { reads := [.flag .cy], writes := [.flag .cy] }
  | .movBB => movUses .b .b
  | .movBC => movUses .b .c
  | .movBD => movUses .b .d
  | .movBE => movUses .b .e
  | .movBH => movUses .b .h
  | .movBL => movUses .b .l
  | .movBM => { reads := [.reg .h, .reg .l], writes := [.reg .b] }
  | .movBA => movUses .b .a
  | .movCB => movUses .c .b
  | .movCC => movUses .c .c
  | .movCD => movUses .c .d
  | .movCE => movUses .c .e
  | .movCH => movUses .c .h
  | .movCL => movUses .c .l
  | .movCM => { reads := [.reg .h, .reg .l], writes := [.reg .c] }
  | .movCA => movUses .c .a
  | .movDB => movUses .d .b
  | .movDC => movUses .d .c
  | .movDD => movUses .d .d
  | .movDE => movUses .d .e
  | .movDH => movUses .d .h
  | .movDL => movUses .d .l
  | .movDM => { reads := [.reg .h, .reg .l], writes := [.reg .d] }
  | .movDA => movUses .d .a
  | .movEB => movUses .e .b
  | .movEC => movUses .e .c
  | .movED => movUses .e .d
  | .movEE => movUses .e .e
  | .movEH => movUses .e .h
  | .movEL => movUses .e .l
  | .movEM => { reads := [.reg .h, .reg .l], writes := [.reg .e] }
  | .movEA => movUses .e .a
  | .movHB => movUses .h .b
  | .movHC => movUses .h .c
  | .movHD => movUses .h .d
  | .movHE => movUses .h .e
  | .movHH => movUses .h .h
  | .movHL => movUses .h .l
  | .movHM => { reads := [.reg .h, .reg .l], writes := [.reg .h] }
  | .movHA => movUses .h .a
  | .movLB => movUses .l .b
  | .movLC => movUses .l .c
  | .movLD => movUses .l .d
  | .movLE => movUses .l .e
  | .movLH => movUses .l .h
  | .movLL => movUses .l .l
  | .movLM => { reads := [.reg .h, .reg .l], writes := [.reg .l] }
  | .movLA => movUses .l .a
  | .movMB => { reads := [.reg .b, .reg .h, .reg .l], writes := [] }
  | .movMC => { reads := [.reg .c, .reg .h, .reg .l], writes := [] }
  | .movMD => { reads := [.reg .d, .reg .h, .reg .l], writes := [] }
  | .movME => { reads := [.reg .e, .reg .h, .reg .l], writes := [] }
  | .movMH => { reads := [.reg .h, .reg .h, .reg .l], writes := [] }
  | .movML => { reads := [.reg .l, .reg .h, .reg .l], writes := [] }
  | .hlt => noUses
  | .movMA => { reads := [.reg .a, .reg .h, .reg .l], writes := [] }
  | .movAB => movUses .a .b
  | .movAC => movUses .a .c
  | .movAD => movUses .a .d
  | .movAE => movUses .a .e
  | .movAH => movUses .a .h
  | .movAL => movUses .a .l
  | .movAM => { reads := [.reg .h, .reg .l], writes := [.reg .a] }
  | .movAA => movUses .a .a
  | .addB => aluUses .add (.reg .b)
  | .addC => aluUses .add (.reg .c)
  | .addD => aluUses .add (.reg .d)
  | .addE => aluUses .add (.reg .e)
  | .addH => aluUses .add (.reg .h)
  | .addL => aluUses .add (.reg .l)
  | .addM => aluUses .add .m
  | .addA => aluUses .add (.reg .a)
  | .adcB => aluUses .adc (.reg .b)
  | .adcC => aluUses .adc (.reg .c)
  | .adcD => aluUses .adc (.reg .d)
  | .adcE => aluUses .adc (.reg .e)
  | .adcH => aluUses .adc (.reg .h)
  | .adcL => aluUses .adc (.reg .l)
  | .adcM => aluUses .adc .m
  | .adcA => aluUses .adc (.reg .a)
  | .subB => aluUses .sub (.reg .b)
  | .subC => aluUses .sub (.reg .c)
  | .subD => aluUses .sub (.reg .d)
  | .subE => aluUses .sub (.reg .e)
  | .subH => aluUses .sub (.reg .h)
  | .subL => aluUses .sub (.reg .l)
  | .subM => aluUses .sub .m
  | .subA => aluUses .sub (.reg .a)
  | .sbbB => aluUses .sbb (.reg .b)
  | .sbbC => aluUses .sbb (.reg .c)
  | .sbbD => aluUses .sbb (.reg .d)
  | .sbbE => aluUses .sbb (.reg .e)
  | .sbbH => aluUses .sbb (.reg .h)
  | .sbbL => aluUses .sbb (.reg .l)
  | .sbbM => aluUses .sbb .m
  | .sbbA => aluUses .sbb (.reg .a)
  | .anaB => aluUses .ana (.reg .b)
  | .anaC => aluUses .ana (.reg .c)
  | .anaD => aluUses .ana (.reg .d)
  | .anaE => aluUses .ana (.reg .e)
  | .anaH => aluUses .ana (.reg .h)
  | .anaL => aluUses .ana (.reg .l)
  | .anaM => aluUses .ana .m
  | .anaA => aluUses .ana (.reg .a)
  | .xraB => aluUses .xra (.reg .b)
  | .xraC => aluUses .xra (.reg .c)
  | .xraD => aluUses .xra (.reg .d)
  | .xraE => aluUses .xra (.reg .e)
  | .xraH => aluUses .xra (.reg .h)
  | .xraL => aluUses .xra (.reg .l)
  | .xraM => aluUses .xra .m
  | .xraA => aluUses .xra (.reg .a)
  | .oraB => aluUses .ora (.reg .b)
  | .oraC => aluUses .ora (.reg .c)
  | .oraD => aluUses .ora (.reg .d)
  | .oraE => aluUses .ora (.reg .e)
  | .oraH => aluUses .ora (.reg .h)
  | .oraL => aluUses .ora (.reg .l)
  | .oraM => aluUses .ora .m
  | .oraA => aluUses .ora (.reg .a)
  | .cmpB => aluUses .cmp (.reg .b)
  | .cmpC => aluUses .cmp (.reg .c)
  | .cmpD => aluUses .cmp (.reg .d)
  | .cmpE => aluUses .cmp (.reg .e)
  | .cmpH => aluUses .cmp (.reg .h)
  | .cmpL => aluUses .cmp (.reg .l)
  | .cmpM => aluUses .cmp .m
  | .cmpA => aluUses .cmp (.reg .a)
  | .rnz => stackIfUses .nz s
  | .popB => popUses (regPairItems .bc)
  | .jnz _ => jumpIfUses .nz
  | .jmp _ => noUses
  | .cnz _ => stackIfUses .nz s
  | .pushB => pushUses (regPairItems .bc)
  | .adi _ => aluByteUses .add
  | .rst0 => stackUses
  | .rz => stackIfUses .z s
  | .ret => stackUses
  | .jz _ => jumpIfUses .z
  | .unusedCB _ => unusedUses noUses s
  | .cz _ => stackIfUses .z s
  | .call _ => stackUses
  | .aci _ => aluByteUses .adc
  | .rst1 => stackUses
  | .rnc => stackIfUses .nc s
  | .popD => popUses (regPairItems .de)
  | .jnc _ => jumpIfUses .nc
  | .outN _ => { reads := [.reg .a], writes := [] }
  | .cnc _ => stackIfUses .nc s
  | .pushD => pushUses (regPairItems .de)
  | .sui _ => aluByteUses .sub
  | .rst2 => stackUses
  | .rc => stackIfUses .c s
  | .unusedD9 => unusedUses stackUses s
  | .jc _ => jumpIfUses .c
  | .inN _ => { reads := [], writes := [.reg .a] }
  | .cc _ => stackIfUses .c s
  | .unusedDD _ => unusedUses stackUses s
  | .sbi _ => aluByteUses .sbb
  | .rst3 => stackUses
  | .rpo => stackIfUses .po s
  | .popH => popUses (regPairItems .hl)
  | .jpo _ => jumpIfUses .po
  | .xthl => { reads := [.reg .h, .reg .l, .sp], writes := [.reg .h, .reg .l] }
  | .cpo _ => stackIfUses .po s
  | .pushH => pushUses (regPairItems .hl)
  | .ani _ => aluByteUses .ana
  | .rst4 => stackUses
  | .rpe => stackIfUses .pe s
  | .pchl => { reads := [.reg .h, .reg .l], writes := [] }
  | .jpe _ => jumpIfUses .pe
  | .xchg => { reads := [.reg .d, .reg .e, .reg .h, .reg .l], writes := [.reg .d, .reg .e, .reg .h, .reg .l] }
  | .cpe _ => stackIfUses .pe s
  | .unusedED _ => unusedUses stackUses s
  | .xri _ => aluByteUses .xra
  | .rst5 => stackUses
  | .rp => stackIfUses .p s
  | .popPSW => popUses (.reg .a :: flagItems)
  | .jp _ => jumpIfUses .p
  | .di => noUses
  | .cp _ => stackIfUses .p s
  | .pushPSW => pushUses (.reg .a :: flagItems)
  | .ori _ => aluByteUses .ora
  | .rst6 => stackUses
  | .rm => stackIfUses .m s
  | .sphl => { reads := [.reg .h, .reg .l], writes := [.sp] }
  | .jm _ => jumpIfUses .m
  | .ei => noUses
  | .cm _ => stackIfUses .m s
  | .unusedFD _ => unusedUses stackUses s
  | .cpi _ => aluByteUses .cmp
  | .rst7 => stackUses

end Sys2Proof.Machine
end

