-- ==== Sys2Proof/Machine/Boundary.lean ====
section
/-! DEFINITION. What happens at an instruction boundary: reset, the interrupt request, the stop state (R320 to R325,
R350 to R352). -/

namespace Sys2Proof.Machine

/-- What the interrupting device has supplied (R322). -/
inductive Supplied where
  /-- RST n or a complete CALL, with its target. -/
  | call (target : Word)
  /-- An unused code under the `fault` policy. -/
  | unused (opcode : Byte)
  /-- Any other instruction. -/
  | other (opcode : Byte)
  /-- No byte, or a CALL without both its address bytes. -/
  | incomplete
  deriving DecidableEq, Repr

/-- Whether an opcode is `11 nnn 111`, RST n (R97). -/
def isRestartCode (op : Byte) : Bool := op &&& 0xC7 == 0xC7

/-- The restart number of `11 nnn 111`: bits 5:3 (R97). -/
def restartField (op : Byte) : Fin 8 := (op.extractLsb' 3 3).toFin

/-- The unused codes that run as CALL ADR under the `alias` policy (R105). -/
def callAliases : List Byte := [0xDD, 0xED, 0xFD]

/-- The twelve unused codes (R105). -/
def unusedCodes : List Byte := [0x08, 0x10, 0x18, 0x20, 0x28, 0x30, 0x38, 0xCB, 0xD9, 0xDD, 0xED, 0xFD]

/-- Whether a supplied opcode is CALL ADR, or under `alias` an unused code that runs as it (R105; log 16). -/
def isCallCode (policy : UndefOpcodePolicy) (op : Byte) : Bool :=
  op == 0xCD || (policy == .aliased && callAliases.contains op)

/-- Reads the supplied bytes; bytes behind the instruction are not taken (R322; log 16). -/
def readSupplied (policy : UndefOpcodePolicy) (bytes : List Byte) : Supplied :=
  match bytes with
  | [] => .incomplete
  | op :: rest =>
    if isRestartCode op then .call (restartAddress (restartField op))
    else if isCallCode policy op then
      match rest with
      | lo :: hi :: _ => .call (joinBytes hi lo)
      | _ => .incomplete
    else if policy == .fault && unusedCodes.contains op then .unused op
    else .other op

/-- Entry with the supplied instruction, which reads and writes SP (R23), or the stop R322 gives: for an unused code
after points (1) and (2) of R322, with PC not advanced (R322, R311; log 15). -/
def takeInterrupt (bytes : List Byte) (s : State) : Result :=
  match readSupplied s.params.undefOpcode bytes with
  | .call target => checked stackUses (beginEntry s) (.next (enterInterrupt target s))
  | .unused op => .fault (.undefinedOpcode op none (beginEntry s))
  | .other op => .refused (.suppliedInstruction op)
  | .incomplete => .refused (.suppliedIncomplete bytes)

/-- What a boundary leads to: the step is over, or an instruction is to be fetched and run. -/
inductive Boundary where
  | settled (o : Result)
  | execute (s : State)

/-- What the environment does at this boundary; past the end of the list, nothing (log 11). -/
def currentInput (s : State) : BoundaryInput := s.inputs.headD .quiet

/-- The state with this boundary's input taken off the list. -/
def afterInput (s : State) : State := { s with inputs := s.inputs.tail }

/-- Points (3) and (4) of R325: in the stop state nothing happens, else an instruction runs. -/
def continueRun (s : State) : Boundary :=
  if s.halted then .settled (.next s) else .execute s

/-- The order of events at a boundary (R325): reset, else an accepted request, else the stop state, else an
instruction. -/
def atBoundary (s : State) : Boundary :=
  let input := currentInput s
  let s0 := afterInput s
  if input.reset then .settled (.next (applyReset s0))
  else
    match input.request with
    | some bytes => if acceptsRequest s0 then .settled (takeInterrupt bytes s0) else continueRun s0
    | none => continueRun s0

/-! ## Placing an instruction to be fetched next (log 17) -/

/-- The kind `MEM_KIND` gives an address made `ram` if a fetch there would not read the cell. -/
def readableAt (a : Word) (p : Params) : Params :=
  match memKind p a with
  | .ram => p
  | .rom => p
  | .absent => { p with memMap := { base := a.toNat, size := 1, kind := .ram } :: p.memMap }
  | .device => { p with memMap := { base := a.toNat, size := 1, kind := .ram } :: p.memMap }

/-- The state with a byte in the cell at an address, fetched from there. -/
def placeByte (a : Word) (v : Byte) (s : State) : State :=
  { s with mem := writeCell s.mem a.toNat v, params := readableAt a s.params }

/-- The inputs with nothing happening at the coming boundary. -/
def quietNext : List BoundaryInput → List BoundaryInput
  | [] => []
  | _ :: rest => .quiet :: rest

/-- The state with bytes placed at an address and upward. -/
def placeBytes : Word → List Byte → State → State
  | _, [], s => s
  | a, v :: rest, s => placeBytes (a + 1) rest (placeByte a v s)

end Sys2Proof.Machine
end

