-- ==== Sys2Proof/Machine/AluOne.lean ====
section
/-! DEFINITION. Group 5, one operand: CMC, STC, CMA, DAA, INR, DCR, INX, DCX (R180 to R187). -/

namespace Sys2Proof.Machine

/-- `F.CY <- 1 - F.CY` (R180). -/
def complementCarry (s : State) : State :=
  { s with f := { s.f with cy := !s.f.cy } }

/-- `F.CY <- 1` (R181). -/
def setCarry (s : State) : State :=
  { s with f := { s.f with cy := true } }

/-- `A <- ~A` (R182). -/
def complementAccumulator (s : State) : State :=
  { s with a := ~~~s.a }

/-- A and the flags by the decimal adjustment of R183. -/
def decimalAdjust (s : State) : State :=
  let r := adjustDecimal s.a s.f
  { s with a := r.1, f := r.2 }

/-- `v <- get8(ddd)`, the flags of the increment, `set8(ddd, t)` (R184). -/
def incrementOperand (o : Operand8) (s : State) : State :=
  let v := get8 o s
  let r := increment8 v.1 s.f
  set8 o r.1 { v.2 with f := r.2 }

/-- `v <- get8(ddd)`, the flags of the decrement, `set8(ddd, t)` (R185). -/
def decrementOperand (o : Operand8) (s : State) : State :=
  let v := get8 o s
  let r := decrement8 v.1 s.f
  set8 o r.1 { v.2 with f := r.2 }

/-- `rp[pp] <- trunc_16(rp[pp] + 1)` (R186). -/
def incrementPair (p : Pair) (s : State) : State :=
  setPair p (getPair p s + 1) s

/-- `rp[pp] <- trunc_16(rp[pp] - 1)` (R187). -/
def decrementPair (p : Pair) (s : State) : State :=
  setPair p (getPair p s - 1) s

/-- `INX B`, R186. -/
def execInxB (s : State) : Result :=
  .next (incrementPair (.rp .bc) s)

/-- `INR B`, R184. -/
def execInrB (s : State) : Result :=
  .next (incrementOperand (.reg .b) s)

/-- `DCR B`, R185. -/
def execDcrB (s : State) : Result :=
  .next (decrementOperand (.reg .b) s)

/-- `DCX B`, R187. -/
def execDcxB (s : State) : Result :=
  .next (decrementPair (.rp .bc) s)

/-- `INR C`, R184. -/
def execInrC (s : State) : Result :=
  .next (incrementOperand (.reg .c) s)

/-- `DCR C`, R185. -/
def execDcrC (s : State) : Result :=
  .next (decrementOperand (.reg .c) s)

/-- `INX D`, R186. -/
def execInxD (s : State) : Result :=
  .next (incrementPair (.rp .de) s)

/-- `INR D`, R184. -/
def execInrD (s : State) : Result :=
  .next (incrementOperand (.reg .d) s)

/-- `DCR D`, R185. -/
def execDcrD (s : State) : Result :=
  .next (decrementOperand (.reg .d) s)

/-- `DCX D`, R187. -/
def execDcxD (s : State) : Result :=
  .next (decrementPair (.rp .de) s)

/-- `INR E`, R184. -/
def execInrE (s : State) : Result :=
  .next (incrementOperand (.reg .e) s)

/-- `DCR E`, R185. -/
def execDcrE (s : State) : Result :=
  .next (decrementOperand (.reg .e) s)

/-- `INX H`, R186. -/
def execInxH (s : State) : Result :=
  .next (incrementPair (.rp .hl) s)

/-- `INR H`, R184. -/
def execInrH (s : State) : Result :=
  .next (incrementOperand (.reg .h) s)

/-- `DCR H`, R185. -/
def execDcrH (s : State) : Result :=
  .next (decrementOperand (.reg .h) s)

/-- `DAA`, R183. -/
def execDaa (s : State) : Result :=
  .next (decimalAdjust s)

/-- `DCX H`, R187. -/
def execDcxH (s : State) : Result :=
  .next (decrementPair (.rp .hl) s)

/-- `INR L`, R184. -/
def execInrL (s : State) : Result :=
  .next (incrementOperand (.reg .l) s)

/-- `DCR L`, R185. -/
def execDcrL (s : State) : Result :=
  .next (decrementOperand (.reg .l) s)

/-- `CMA`, R182. -/
def execCma (s : State) : Result :=
  .next (complementAccumulator s)

/-- `INX SP`, R186. -/
def execInxSP (s : State) : Result :=
  .next (incrementPair .sp s)

/-- `INR M`, R184. -/
def execInrM (s : State) : Result :=
  .next (incrementOperand .m s)

/-- `DCR M`, R185. -/
def execDcrM (s : State) : Result :=
  .next (decrementOperand .m s)

/-- `STC`, R181. -/
def execStc (s : State) : Result :=
  .next (setCarry s)

/-- `DCX SP`, R187. -/
def execDcxSP (s : State) : Result :=
  .next (decrementPair .sp s)

/-- `INR A`, R184. -/
def execInrA (s : State) : Result :=
  .next (incrementOperand (.reg .a) s)

/-- `DCR A`, R185. -/
def execDcrA (s : State) : Result :=
  .next (decrementOperand (.reg .a) s)

/-- `CMC`, R180. -/
def execCmc (s : State) : Result :=
  .next (complementCarry s)

end Sys2Proof.Machine
end

