-- ==== Sys2Proof/Machine/AluTwo.lean ====
section
/-! DEFINITION. Group 6, two operands: ADD to CPI and DAD (R198 to R216). -/

namespace Sys2Proof.Machine

/-- An 8-bit operation on A and the second operand `v`: A and the flags (R198). -/
def aluWithByte (op : AluOp) (v : Byte) (s : State) : State :=
  let r := aluResult s.params.anaAc op s.a v s.f
  { s with a := r.1, f := r.2 }

/-- The register form: the second operand is `get8(sss)` (R198). -/
def aluWithOperand (op : AluOp) (o : Operand8) (s : State) : State :=
  let v := get8 o s
  aluWithByte op v.1 v.2

/-- `HL <- trunc_16(HL + rp[pp])`, CY the carry out of bit 15 (R216). -/
def addPairToHl (p : Pair) (s : State) : State :=
  let t := (regHL s).toNat + (getPair p s).toNat
  setRegPair .hl (BitVec.ofNat 16 t) { s with f := { s.f with cy := decide (t > 0xFFFF) } }

/-- `DAD B`, R216. -/
def execDadB (s : State) : Result :=
  .next (addPairToHl (.rp .bc) s)

/-- `DAD D`, R216. -/
def execDadD (s : State) : Result :=
  .next (addPairToHl (.rp .de) s)

/-- `DAD H`, R216. -/
def execDadH (s : State) : Result :=
  .next (addPairToHl (.rp .hl) s)

/-- `DAD SP`, R216. -/
def execDadSP (s : State) : Result :=
  .next (addPairToHl .sp s)

/-- `ADD B`, R200. -/
def execAddB (s : State) : Result :=
  .next (aluWithOperand .add (.reg .b) s)

/-- `ADD C`, R200. -/
def execAddC (s : State) : Result :=
  .next (aluWithOperand .add (.reg .c) s)

/-- `ADD D`, R200. -/
def execAddD (s : State) : Result :=
  .next (aluWithOperand .add (.reg .d) s)

/-- `ADD E`, R200. -/
def execAddE (s : State) : Result :=
  .next (aluWithOperand .add (.reg .e) s)

/-- `ADD H`, R200. -/
def execAddH (s : State) : Result :=
  .next (aluWithOperand .add (.reg .h) s)

/-- `ADD L`, R200. -/
def execAddL (s : State) : Result :=
  .next (aluWithOperand .add (.reg .l) s)

/-- `ADD M`, R200. -/
def execAddM (s : State) : Result :=
  .next (aluWithOperand .add .m s)

/-- `ADD A`, R200. -/
def execAddA (s : State) : Result :=
  .next (aluWithOperand .add (.reg .a) s)

/-- `ADC B`, R202. -/
def execAdcB (s : State) : Result :=
  .next (aluWithOperand .adc (.reg .b) s)

/-- `ADC C`, R202. -/
def execAdcC (s : State) : Result :=
  .next (aluWithOperand .adc (.reg .c) s)

/-- `ADC D`, R202. -/
def execAdcD (s : State) : Result :=
  .next (aluWithOperand .adc (.reg .d) s)

/-- `ADC E`, R202. -/
def execAdcE (s : State) : Result :=
  .next (aluWithOperand .adc (.reg .e) s)

/-- `ADC H`, R202. -/
def execAdcH (s : State) : Result :=
  .next (aluWithOperand .adc (.reg .h) s)

/-- `ADC L`, R202. -/
def execAdcL (s : State) : Result :=
  .next (aluWithOperand .adc (.reg .l) s)

/-- `ADC M`, R202. -/
def execAdcM (s : State) : Result :=
  .next (aluWithOperand .adc .m s)

/-- `ADC A`, R202. -/
def execAdcA (s : State) : Result :=
  .next (aluWithOperand .adc (.reg .a) s)

/-- `SUB B`, R204. -/
def execSubB (s : State) : Result :=
  .next (aluWithOperand .sub (.reg .b) s)

/-- `SUB C`, R204. -/
def execSubC (s : State) : Result :=
  .next (aluWithOperand .sub (.reg .c) s)

/-- `SUB D`, R204. -/
def execSubD (s : State) : Result :=
  .next (aluWithOperand .sub (.reg .d) s)

/-- `SUB E`, R204. -/
def execSubE (s : State) : Result :=
  .next (aluWithOperand .sub (.reg .e) s)

/-- `SUB H`, R204. -/
def execSubH (s : State) : Result :=
  .next (aluWithOperand .sub (.reg .h) s)

/-- `SUB L`, R204. -/
def execSubL (s : State) : Result :=
  .next (aluWithOperand .sub (.reg .l) s)

/-- `SUB M`, R204. -/
def execSubM (s : State) : Result :=
  .next (aluWithOperand .sub .m s)

/-- `SUB A`, R204. -/
def execSubA (s : State) : Result :=
  .next (aluWithOperand .sub (.reg .a) s)

/-- `SBB B`, R206. -/
def execSbbB (s : State) : Result :=
  .next (aluWithOperand .sbb (.reg .b) s)

/-- `SBB C`, R206. -/
def execSbbC (s : State) : Result :=
  .next (aluWithOperand .sbb (.reg .c) s)

/-- `SBB D`, R206. -/
def execSbbD (s : State) : Result :=
  .next (aluWithOperand .sbb (.reg .d) s)

/-- `SBB E`, R206. -/
def execSbbE (s : State) : Result :=
  .next (aluWithOperand .sbb (.reg .e) s)

/-- `SBB H`, R206. -/
def execSbbH (s : State) : Result :=
  .next (aluWithOperand .sbb (.reg .h) s)

/-- `SBB L`, R206. -/
def execSbbL (s : State) : Result :=
  .next (aluWithOperand .sbb (.reg .l) s)

/-- `SBB M`, R206. -/
def execSbbM (s : State) : Result :=
  .next (aluWithOperand .sbb .m s)

/-- `SBB A`, R206. -/
def execSbbA (s : State) : Result :=
  .next (aluWithOperand .sbb (.reg .a) s)

/-- `ANA B`, R208. -/
def execAnaB (s : State) : Result :=
  .next (aluWithOperand .ana (.reg .b) s)

/-- `ANA C`, R208. -/
def execAnaC (s : State) : Result :=
  .next (aluWithOperand .ana (.reg .c) s)

/-- `ANA D`, R208. -/
def execAnaD (s : State) : Result :=
  .next (aluWithOperand .ana (.reg .d) s)

/-- `ANA E`, R208. -/
def execAnaE (s : State) : Result :=
  .next (aluWithOperand .ana (.reg .e) s)

/-- `ANA H`, R208. -/
def execAnaH (s : State) : Result :=
  .next (aluWithOperand .ana (.reg .h) s)

/-- `ANA L`, R208. -/
def execAnaL (s : State) : Result :=
  .next (aluWithOperand .ana (.reg .l) s)

/-- `ANA M`, R208. -/
def execAnaM (s : State) : Result :=
  .next (aluWithOperand .ana .m s)

/-- `ANA A`, R208. -/
def execAnaA (s : State) : Result :=
  .next (aluWithOperand .ana (.reg .a) s)

/-- `XRA B`, R212. -/
def execXraB (s : State) : Result :=
  .next (aluWithOperand .xra (.reg .b) s)

/-- `XRA C`, R212. -/
def execXraC (s : State) : Result :=
  .next (aluWithOperand .xra (.reg .c) s)

/-- `XRA D`, R212. -/
def execXraD (s : State) : Result :=
  .next (aluWithOperand .xra (.reg .d) s)

/-- `XRA E`, R212. -/
def execXraE (s : State) : Result :=
  .next (aluWithOperand .xra (.reg .e) s)

/-- `XRA H`, R212. -/
def execXraH (s : State) : Result :=
  .next (aluWithOperand .xra (.reg .h) s)

/-- `XRA L`, R212. -/
def execXraL (s : State) : Result :=
  .next (aluWithOperand .xra (.reg .l) s)

/-- `XRA M`, R212. -/
def execXraM (s : State) : Result :=
  .next (aluWithOperand .xra .m s)

/-- `XRA A`, R212. -/
def execXraA (s : State) : Result :=
  .next (aluWithOperand .xra (.reg .a) s)

/-- `ORA B`, R210. -/
def execOraB (s : State) : Result :=
  .next (aluWithOperand .ora (.reg .b) s)

/-- `ORA C`, R210. -/
def execOraC (s : State) : Result :=
  .next (aluWithOperand .ora (.reg .c) s)

/-- `ORA D`, R210. -/
def execOraD (s : State) : Result :=
  .next (aluWithOperand .ora (.reg .d) s)

/-- `ORA E`, R210. -/
def execOraE (s : State) : Result :=
  .next (aluWithOperand .ora (.reg .e) s)

/-- `ORA H`, R210. -/
def execOraH (s : State) : Result :=
  .next (aluWithOperand .ora (.reg .h) s)

/-- `ORA L`, R210. -/
def execOraL (s : State) : Result :=
  .next (aluWithOperand .ora (.reg .l) s)

/-- `ORA M`, R210. -/
def execOraM (s : State) : Result :=
  .next (aluWithOperand .ora .m s)

/-- `ORA A`, R210. -/
def execOraA (s : State) : Result :=
  .next (aluWithOperand .ora (.reg .a) s)

/-- `CMP B`, R214. -/
def execCmpB (s : State) : Result :=
  .next (aluWithOperand .cmp (.reg .b) s)

/-- `CMP C`, R214. -/
def execCmpC (s : State) : Result :=
  .next (aluWithOperand .cmp (.reg .c) s)

/-- `CMP D`, R214. -/
def execCmpD (s : State) : Result :=
  .next (aluWithOperand .cmp (.reg .d) s)

/-- `CMP E`, R214. -/
def execCmpE (s : State) : Result :=
  .next (aluWithOperand .cmp (.reg .e) s)

/-- `CMP H`, R214. -/
def execCmpH (s : State) : Result :=
  .next (aluWithOperand .cmp (.reg .h) s)

/-- `CMP L`, R214. -/
def execCmpL (s : State) : Result :=
  .next (aluWithOperand .cmp (.reg .l) s)

/-- `CMP M`, R214. -/
def execCmpM (s : State) : Result :=
  .next (aluWithOperand .cmp .m s)

/-- `CMP A`, R214. -/
def execCmpA (s : State) : Result :=
  .next (aluWithOperand .cmp (.reg .a) s)

/-- `ADI D8`, R201. -/
def execAdi (d8 : Byte) (s : State) : Result :=
  .next (aluWithByte .add d8 s)

/-- `ACI D8`, R203. -/
def execAci (d8 : Byte) (s : State) : Result :=
  .next (aluWithByte .adc d8 s)

/-- `SUI D8`, R205. -/
def execSui (d8 : Byte) (s : State) : Result :=
  .next (aluWithByte .sub d8 s)

/-- `SBI D8`, R207. -/
def execSbi (d8 : Byte) (s : State) : Result :=
  .next (aluWithByte .sbb d8 s)

/-- `ANI D8`, R209. -/
def execAni (d8 : Byte) (s : State) : Result :=
  .next (aluWithByte .ana d8 s)

/-- `XRI D8`, R213. -/
def execXri (d8 : Byte) (s : State) : Result :=
  .next (aluWithByte .xra d8 s)

/-- `ORI D8`, R211. -/
def execOri (d8 : Byte) (s : State) : Result :=
  .next (aluWithByte .ora d8 s)

/-- `CPI D8`, R215. -/
def execCpi (d8 : Byte) (s : State) : Result :=
  .next (aluWithByte .cmp d8 s)

end Sys2Proof.Machine
end

