-- ==== Sys2Proof/Machine/Control.lean ====
section
/-! DEFINITION. Group 8, transfer of control: JMP, PCHL, Jcc, CALL, RET, RST, Ccc, Rcc (R249 to R280). `jumpTo`,
`callTo` and `returnFrom` are the shared operations of Ops.lean. -/

namespace Sys2Proof.Machine

/-- `if cond(ccc) then PC <- ADR` (R254 to R261). -/
def jumpIf (cond : Cond) (adr : Word) (s : State) : State :=
  if condHolds cond s.f then jumpTo adr s else s

/-- `if cond(ccc) then (Push16(PC); PC <- ADR)` (R265 to R272). -/
def callIf (cond : Cond) (adr : Word) (s : State) : State :=
  if condHolds cond s.f then callTo adr s else s

/-- `if cond(ccc) then PC <- Pop16()` (R273 to R280). -/
def returnIf (cond : Cond) (s : State) : State :=
  if condHolds cond s.f then returnFrom s else s

/-- `Push16(PC)`; `PC <- 8 * n` (R264). -/
def restart (n : Fin 8) (s : State) : State :=
  callTo (restartAddress n) s

/-- `RNZ`, R273. -/
def execRnz (s : State) : Result :=
  .next (returnIf .nz s)

/-- `JNZ ADR`, R254. -/
def execJnz (adr : Word) (s : State) : Result :=
  .next (jumpIf .nz adr s)

/-- `JMP ADR`, R252. -/
def execJmp (adr : Word) (s : State) : Result :=
  .next (jumpTo adr s)

/-- `CNZ ADR`, R265. -/
def execCnz (adr : Word) (s : State) : Result :=
  .next (callIf .nz adr s)

/-- `RST 0`, R264. -/
def execRst0 (s : State) : Result :=
  .next (restart 0 s)

/-- `RZ`, R274. -/
def execRz (s : State) : Result :=
  .next (returnIf .z s)

/-- `RET`, R263. -/
def execRet (s : State) : Result :=
  .next (returnFrom s)

/-- `JZ ADR`, R255. -/
def execJz (adr : Word) (s : State) : Result :=
  .next (jumpIf .z adr s)

/-- `CZ ADR`, R266. -/
def execCz (adr : Word) (s : State) : Result :=
  .next (callIf .z adr s)

/-- `CALL ADR`, R262. -/
def execCall (adr : Word) (s : State) : Result :=
  .next (callTo adr s)

/-- `RST 1`, R264. -/
def execRst1 (s : State) : Result :=
  .next (restart 1 s)

/-- `RNC`, R275. -/
def execRnc (s : State) : Result :=
  .next (returnIf .nc s)

/-- `JNC ADR`, R256. -/
def execJnc (adr : Word) (s : State) : Result :=
  .next (jumpIf .nc adr s)

/-- `CNC ADR`, R267. -/
def execCnc (adr : Word) (s : State) : Result :=
  .next (callIf .nc adr s)

/-- `RST 2`, R264. -/
def execRst2 (s : State) : Result :=
  .next (restart 2 s)

/-- `RC`, R276. -/
def execRc (s : State) : Result :=
  .next (returnIf .c s)

/-- `JC ADR`, R257. -/
def execJc (adr : Word) (s : State) : Result :=
  .next (jumpIf .c adr s)

/-- `CC ADR`, R268. -/
def execCc (adr : Word) (s : State) : Result :=
  .next (callIf .c adr s)

/-- `RST 3`, R264. -/
def execRst3 (s : State) : Result :=
  .next (restart 3 s)

/-- `RPO`, R277. -/
def execRpo (s : State) : Result :=
  .next (returnIf .po s)

/-- `JPO ADR`, R258. -/
def execJpo (adr : Word) (s : State) : Result :=
  .next (jumpIf .po adr s)

/-- `CPO ADR`, R269. -/
def execCpo (adr : Word) (s : State) : Result :=
  .next (callIf .po adr s)

/-- `RST 4`, R264. -/
def execRst4 (s : State) : Result :=
  .next (restart 4 s)

/-- `RPE`, R278. -/
def execRpe (s : State) : Result :=
  .next (returnIf .pe s)

/-- `PCHL`, R253. -/
def execPchl (s : State) : Result :=
  .next (jumpTo (regHL s) s)

/-- `JPE ADR`, R259. -/
def execJpe (adr : Word) (s : State) : Result :=
  .next (jumpIf .pe adr s)

/-- `CPE ADR`, R270. -/
def execCpe (adr : Word) (s : State) : Result :=
  .next (callIf .pe adr s)

/-- `RST 5`, R264. -/
def execRst5 (s : State) : Result :=
  .next (restart 5 s)

/-- `RP`, R279. -/
def execRp (s : State) : Result :=
  .next (returnIf .p s)

/-- `JP ADR`, R260. -/
def execJp (adr : Word) (s : State) : Result :=
  .next (jumpIf .p adr s)

/-- `CP ADR`, R271. -/
def execCp (adr : Word) (s : State) : Result :=
  .next (callIf .p adr s)

/-- `RST 6`, R264. -/
def execRst6 (s : State) : Result :=
  .next (restart 6 s)

/-- `RM`, R280. -/
def execRm (s : State) : Result :=
  .next (returnIf .m s)

/-- `JM ADR`, R261. -/
def execJm (adr : Word) (s : State) : Result :=
  .next (jumpIf .m adr s)

/-- `CM ADR`, R272. -/
def execCm (adr : Word) (s : State) : Result :=
  .next (callIf .m adr s)

/-- `RST 7`, R264. -/
def execRst7 (s : State) : Result :=
  .next (restart 7 s)

end Sys2Proof.Machine
end

