-- ==== Sys2Proof/Machine/Exchange.lean ====
section
/-! DEFINITION. Group 4, exchanges: XCHG, XTHL (R170, R171). -/

namespace Sys2Proof.Machine

/-- H and D swap, L and E swap (R170). -/
def exchangeHlDe (s : State) : State :=
  { s with h := s.d, l := s.e, d := s.h, e := s.l }

/-- L exchanges with the byte at SP and H with the byte at SP + 1, in the order of R171: read SP, read SP + 1,
write SP + 1, write SP. -/
def exchangeHlStack (s : State) : State :=
  let lo := memRead s.sp s
  let hi := memRead (s.sp + 1) lo.2
  let written := memWrite s.sp s.l (memWrite (s.sp + 1) s.h hi.2)
  { written with h := hi.1, l := lo.1 }

/-- `XTHL`, R171. -/
def execXthl (s : State) : Result :=
  .next (exchangeHlStack s)

/-- `XCHG`, R170. -/
def execXchg (s : State) : Result :=
  .next (exchangeHlDe s)

end Sys2Proof.Machine
end

