-- ==== Sys2Proof/Machine/InOut.lean ====
section
/-! DEFINITION. Group 3, input and output: IN, OUT (R160, R161). -/

namespace Sys2Proof.Machine

/-- `A <- IoRead(N)` (R160). -/
def inputFrom (n : Byte) (s : State) : State :=
  let v := ioRead n s
  setReg .a v.1 v.2

/-- `IoWrite(N, A)` (R161). -/
def outputTo (n : Byte) (s : State) : State :=
  ioWrite n s.a s

/-- `OUT N`, R161. -/
def execOutN (n : Byte) (s : State) : Result :=
  .next (outputTo n s)

/-- `IN N`, R160. -/
def execInN (n : Byte) (s : State) : Result :=
  .next (inputFrom n s)

end Sys2Proof.Machine
end

