-- ==== Sys2Proof/Machine/Rotate.lean ====
section
/-! DEFINITION. Group 7, shifts of the accumulator: RLC, RRC, RAL, RAR (R239 to R243). -/

namespace Sys2Proof.Machine

/-- A and CY after a shift; Z, S, P and AC stay (R239). -/
def withShifted (a : Byte) (cy : Bool) (s : State) : State :=
  { s with a := a, f := { s.f with cy := cy } }

/-- `A <- A[6:0] ++ c`, `CY <- c`, with `c = A[7]` (R240). -/
def rotateLeft (s : State) : State :=
  let c := s.a.getLsbD 7
  withShifted (s.a.extractLsb' 0 7 ++ BitVec.ofBool c) c s

/-- `A <- c ++ A[7:1]`, `CY <- c`, with `c = A[0]` (R241). -/
def rotateRight (s : State) : State :=
  let c := s.a.getLsbD 0
  withShifted (BitVec.ofBool c ++ s.a.extractLsb' 1 7) c s

/-- `A <- A[6:0] ++ CY`, `CY <- A[7]` (R242). -/
def rotateLeftThroughCarry (s : State) : State :=
  withShifted (s.a.extractLsb' 0 7 ++ BitVec.ofBool s.f.cy) (s.a.getLsbD 7) s

/-- `A <- CY ++ A[7:1]`, `CY <- A[0]` (R243). -/
def rotateRightThroughCarry (s : State) : State :=
  withShifted (BitVec.ofBool s.f.cy ++ s.a.extractLsb' 1 7) (s.a.getLsbD 0) s

/-- `RLC`, R240. -/
def execRlc (s : State) : Result :=
  .next (rotateLeft s)

/-- `RRC`, R241. -/
def execRrc (s : State) : Result :=
  .next (rotateRight s)

/-- `RAL`, R242. -/
def execRal (s : State) : Result :=
  .next (rotateLeftThroughCarry s)

/-- `RAR`, R243. -/
def execRar (s : State) : Result :=
  .next (rotateRightThroughCarry s)

end Sys2Proof.Machine
end

