-- ==== Sys2Proof/Machine/Special.lean ====
section
/-! DEFINITION. Group 9, special: NOP, HLT, EI, DI (R300 to R303). -/

namespace Sys2Proof.Machine

/-- Nothing beyond the fetch (R300). -/
def noOperation (s : State) : State := s

/-- `Halted <- 1` (R301). -/
def halt (s : State) : State :=
  { s with halted := true }

/-- `INTE <- 1`; `EIDelay <- 1` (R302). -/
def enableInterrupts (s : State) : State :=
  { s with inte := true, eiDelay := true }

/-- `INTE <- 0`; `EIDelay <- 0` (R303). -/
def disableInterrupts (s : State) : State :=
  { s with inte := false, eiDelay := false }

/-- `NOP`, R300. -/
def execNop (s : State) : Result :=
  .next (noOperation s)

/-- `HLT`, R301. -/
def execHlt (s : State) : Result :=
  .next (halt s)

/-- `DI`, R303. -/
def execDi (s : State) : Result :=
  .next (disableInterrupts s)

/-- `EI`, R302. -/
def execEi (s : State) : Result :=
  .next (enableInterrupts s)

end Sys2Proof.Machine
end

