-- ==== Sys2Proof/Machine/Transfer16.lean ====
section
/-! DEFINITION. Group 2, transfers of two bytes: LXI, SHLD, LHLD, PUSH, POP (R140 to R146). -/

namespace Sys2Proof.Machine

/-- `rp[pp] <- hi ++ lo` (R140). -/
def loadPairImmediate (p : Pair) (v : Word) (s : State) : State :=
  setPair p v s

/-- `MemWrite(ADR, 1, L)`, then `MemWrite(ADR + 1, 1, H)` (R141). -/
def storeHlDirect (adr : Word) (s : State) : State :=
  memWrite (adr + 1) s.h (memWrite adr s.l s)

/-- `L <- MemRead(ADR, 1)`, then `H <- MemRead(ADR + 1, 1)` (R142). -/
def loadHlDirect (adr : Word) (s : State) : State :=
  let lo := memRead adr s
  let hi := memRead (adr + 1) (setReg .l lo.1 lo.2)
  setReg .h hi.1 hi.2

/-- `Push16(rp[pp])` (R143). -/
def pushPair (p : RegPair) (s : State) : State :=
  push16 (getRegPair p s) s

/-- `Push16(A ++ pack(F))` (R144, R27). -/
def pushPsw (s : State) : State :=
  push16 (joinBytes s.a (packFlags s.f)) s

/-- `rp[pp] <- Pop16()` (R145). -/
def popPair (p : RegPair) (s : State) : State :=
  let v := pop16 s
  setRegPair p v.1 v.2

/-- The word popped goes to A (high byte) and, unpacked, to the five flags (low byte) (R146, R27). -/
def popPsw (s : State) : State :=
  let v := pop16 s
  { v.2 with a := highByte v.1, f := unpackFlags (lowByte v.1) }

/-- `LXI B,D16`, R140. -/
def execLxiB (d16 : Word) (s : State) : Result :=
  .next (loadPairImmediate (.rp .bc) d16 s)

/-- `LXI D,D16`, R140. -/
def execLxiD (d16 : Word) (s : State) : Result :=
  .next (loadPairImmediate (.rp .de) d16 s)

/-- `LXI H,D16`, R140. -/
def execLxiH (d16 : Word) (s : State) : Result :=
  .next (loadPairImmediate (.rp .hl) d16 s)

/-- `SHLD ADR`, R141. -/
def execShld (adr : Word) (s : State) : Result :=
  .next (storeHlDirect adr s)

/-- `LHLD ADR`, R142. -/
def execLhld (adr : Word) (s : State) : Result :=
  .next (loadHlDirect adr s)

/-- `LXI SP,D16`, R140. -/
def execLxiSP (d16 : Word) (s : State) : Result :=
  .next (loadPairImmediate .sp d16 s)

/-- `POP B`, R145. -/
def execPopB (s : State) : Result :=
  .next (popPair .bc s)

/-- `PUSH B`, R143. -/
def execPushB (s : State) : Result :=
  .next (pushPair .bc s)

/-- `POP D`, R145. -/
def execPopD (s : State) : Result :=
  .next (popPair .de s)

/-- `PUSH D`, R143. -/
def execPushD (s : State) : Result :=
  .next (pushPair .de s)

/-- `POP H`, R145. -/
def execPopH (s : State) : Result :=
  .next (popPair .hl s)

/-- `PUSH H`, R143. -/
def execPushH (s : State) : Result :=
  .next (pushPair .hl s)

/-- `POP PSW`, R146. -/
def execPopPSW (s : State) : Result :=
  .next (popPsw s)

/-- `PUSH PSW`, R144. -/
def execPushPSW (s : State) : Result :=
  .next (pushPsw s)

end Sys2Proof.Machine
end

