-- ==== Sys2Proof/Machine/Transfer8.lean ====
section
/-! DEFINITION. Group 1, transfers of one byte: MOV, STAX, LDAX, STA, LDA, MVI, SPHL (R120 to R129). -/

namespace Sys2Proof.Machine

/-- `x[ddd] <- x[sss]` (R120). -/
def moveRegister (dst src : Reg) (s : State) : State :=
  setReg dst (getReg src s) s

/-- `x[ddd] <- MemRead(HL, 1)` (R121). -/
def moveFromMemory (dst : Reg) (s : State) : State :=
  let v := memRead (regHL s) s
  setReg dst v.1 v.2

/-- `MemWrite(HL, 1, x[sss])` (R122). -/
def moveToMemory (src : Reg) (s : State) : State :=
  memWrite (regHL s) (getReg src s) s

/-- `MemWrite(rp, 1, A)` (R123). -/
def storeIndirect (p : RegPair) (s : State) : State :=
  memWrite (getRegPair p s) s.a s

/-- `A <- MemRead(rp, 1)` (R124). -/
def loadIndirect (p : RegPair) (s : State) : State :=
  let v := memRead (getRegPair p s) s
  setReg .a v.1 v.2

/-- `MemWrite(ADR, 1, A)` (R125). -/
def storeDirect (adr : Word) (s : State) : State :=
  memWrite adr s.a s

/-- `A <- MemRead(ADR, 1)` (R126). -/
def loadDirect (adr : Word) (s : State) : State :=
  let v := memRead adr s
  setReg .a v.1 v.2

/-- `x[ddd] <- D8` (R127). -/
def moveImmediate (dst : Reg) (v : Byte) (s : State) : State :=
  setReg dst v s

/-- `MemWrite(HL, 1, D8)` (R128). -/
def moveImmediateToMemory (v : Byte) (s : State) : State :=
  memWrite (regHL s) v s

/-- `SP <- HL` (R129). -/
def loadSpFromHl (s : State) : State :=
  { s with sp := regHL s }

/-- `STAX B`, R123. -/
def execStaxB (s : State) : Result :=
  .next (storeIndirect .bc s)

/-- `MVI B,D8`, R127. -/
def execMviB (d8 : Byte) (s : State) : Result :=
  .next (moveImmediate .b d8 s)

/-- `LDAX B`, R124. -/
def execLdaxB (s : State) : Result :=
  .next (loadIndirect .bc s)

/-- `MVI C,D8`, R127. -/
def execMviC (d8 : Byte) (s : State) : Result :=
  .next (moveImmediate .c d8 s)

/-- `STAX D`, R123. -/
def execStaxD (s : State) : Result :=
  .next (storeIndirect .de s)

/-- `MVI D,D8`, R127. -/
def execMviD (d8 : Byte) (s : State) : Result :=
  .next (moveImmediate .d d8 s)

/-- `LDAX D`, R124. -/
def execLdaxD (s : State) : Result :=
  .next (loadIndirect .de s)

/-- `MVI E,D8`, R127. -/
def execMviE (d8 : Byte) (s : State) : Result :=
  .next (moveImmediate .e d8 s)

/-- `MVI H,D8`, R127. -/
def execMviH (d8 : Byte) (s : State) : Result :=
  .next (moveImmediate .h d8 s)

/-- `MVI L,D8`, R127. -/
def execMviL (d8 : Byte) (s : State) : Result :=
  .next (moveImmediate .l d8 s)

/-- `STA ADR`, R125. -/
def execSta (adr : Word) (s : State) : Result :=
  .next (storeDirect adr s)

/-- `MVI M,D8`, R128. -/
def execMviM (d8 : Byte) (s : State) : Result :=
  .next (moveImmediateToMemory d8 s)

/-- `LDA ADR`, R126. -/
def execLda (adr : Word) (s : State) : Result :=
  .next (loadDirect adr s)

/-- `MVI A,D8`, R127. -/
def execMviA (d8 : Byte) (s : State) : Result :=
  .next (moveImmediate .a d8 s)

/-- `MOV B,B`, R120. -/
def execMovBB (s : State) : Result :=
  .next (moveRegister .b .b s)

/-- `MOV B,C`, R120. -/
def execMovBC (s : State) : Result :=
  .next (moveRegister .b .c s)

/-- `MOV B,D`, R120. -/
def execMovBD (s : State) : Result :=
  .next (moveRegister .b .d s)

/-- `MOV B,E`, R120. -/
def execMovBE (s : State) : Result :=
  .next (moveRegister .b .e s)

/-- `MOV B,H`, R120. -/
def execMovBH (s : State) : Result :=
  .next (moveRegister .b .h s)

/-- `MOV B,L`, R120. -/
def execMovBL (s : State) : Result :=
  .next (moveRegister .b .l s)

/-- `MOV B,M`, R121. -/
def execMovBM (s : State) : Result :=
  .next (moveFromMemory .b s)

/-- `MOV B,A`, R120. -/
def execMovBA (s : State) : Result :=
  .next (moveRegister .b .a s)

/-- `MOV C,B`, R120. -/
def execMovCB (s : State) : Result :=
  .next (moveRegister .c .b s)

/-- `MOV C,C`, R120. -/
def execMovCC (s : State) : Result :=
  .next (moveRegister .c .c s)

/-- `MOV C,D`, R120. -/
def execMovCD (s : State) : Result :=
  .next (moveRegister .c .d s)

/-- `MOV C,E`, R120. -/
def execMovCE (s : State) : Result :=
  .next (moveRegister .c .e s)

/-- `MOV C,H`, R120. -/
def execMovCH (s : State) : Result :=
  .next (moveRegister .c .h s)

/-- `MOV C,L`, R120. -/
def execMovCL (s : State) : Result :=
  .next (moveRegister .c .l s)

/-- `MOV C,M`, R121. -/
def execMovCM (s : State) : Result :=
  .next (moveFromMemory .c s)

/-- `MOV C,A`, R120. -/
def execMovCA (s : State) : Result :=
  .next (moveRegister .c .a s)

/-- `MOV D,B`, R120. -/
def execMovDB (s : State) : Result :=
  .next (moveRegister .d .b s)

/-- `MOV D,C`, R120. -/
def execMovDC (s : State) : Result :=
  .next (moveRegister .d .c s)

/-- `MOV D,D`, R120. -/
def execMovDD (s : State) : Result :=
  .next (moveRegister .d .d s)

/-- `MOV D,E`, R120. -/
def execMovDE (s : State) : Result :=
  .next (moveRegister .d .e s)

/-- `MOV D,H`, R120. -/
def execMovDH (s : State) : Result :=
  .next (moveRegister .d .h s)

/-- `MOV D,L`, R120. -/
def execMovDL (s : State) : Result :=
  .next (moveRegister .d .l s)

/-- `MOV D,M`, R121. -/
def execMovDM (s : State) : Result :=
  .next (moveFromMemory .d s)

/-- `MOV D,A`, R120. -/
def execMovDA (s : State) : Result :=
  .next (moveRegister .d .a s)

/-- `MOV E,B`, R120. -/
def execMovEB (s : State) : Result :=
  .next (moveRegister .e .b s)

/-- `MOV E,C`, R120. -/
def execMovEC (s : State) : Result :=
  .next (moveRegister .e .c s)

/-- `MOV E,D`, R120. -/
def execMovED (s : State) : Result :=
  .next (moveRegister .e .d s)

/-- `MOV E,E`, R120. -/
def execMovEE (s : State) : Result :=
  .next (moveRegister .e .e s)

/-- `MOV E,H`, R120. -/
def execMovEH (s : State) : Result :=
  .next (moveRegister .e .h s)

/-- `MOV E,L`, R120. -/
def execMovEL (s : State) : Result :=
  .next (moveRegister .e .l s)

/-- `MOV E,M`, R121. -/
def execMovEM (s : State) : Result :=
  .next (moveFromMemory .e s)

/-- `MOV E,A`, R120. -/
def execMovEA (s : State) : Result :=
  .next (moveRegister .e .a s)

/-- `MOV H,B`, R120. -/
def execMovHB (s : State) : Result :=
  .next (moveRegister .h .b s)

/-- `MOV H,C`, R120. -/
def execMovHC (s : State) : Result :=
  .next (moveRegister .h .c s)

/-- `MOV H,D`, R120. -/
def execMovHD (s : State) : Result :=
  .next (moveRegister .h .d s)

/-- `MOV H,E`, R120. -/
def execMovHE (s : State) : Result :=
  .next (moveRegister .h .e s)

/-- `MOV H,H`, R120. -/
def execMovHH (s : State) : Result :=
  .next (moveRegister .h .h s)

/-- `MOV H,L`, R120. -/
def execMovHL (s : State) : Result :=
  .next (moveRegister .h .l s)

/-- `MOV H,M`, R121. -/
def execMovHM (s : State) : Result :=
  .next (moveFromMemory .h s)

/-- `MOV H,A`, R120. -/
def execMovHA (s : State) : Result :=
  .next (moveRegister .h .a s)

/-- `MOV L,B`, R120. -/
def execMovLB (s : State) : Result :=
  .next (moveRegister .l .b s)

/-- `MOV L,C`, R120. -/
def execMovLC (s : State) : Result :=
  .next (moveRegister .l .c s)

/-- `MOV L,D`, R120. -/
def execMovLD (s : State) : Result :=
  .next (moveRegister .l .d s)

/-- `MOV L,E`, R120. -/
def execMovLE (s : State) : Result :=
  .next (moveRegister .l .e s)

/-- `MOV L,H`, R120. -/
def execMovLH (s : State) : Result :=
  .next (moveRegister .l .h s)

/-- `MOV L,L`, R120. -/
def execMovLL (s : State) : Result :=
  .next (moveRegister .l .l s)

/-- `MOV L,M`, R121. -/
def execMovLM (s : State) : Result :=
  .next (moveFromMemory .l s)

/-- `MOV L,A`, R120. -/
def execMovLA (s : State) : Result :=
  .next (moveRegister .l .a s)

/-- `MOV M,B`, R122. -/
def execMovMB (s : State) : Result :=
  .next (moveToMemory .b s)

/-- `MOV M,C`, R122. -/
def execMovMC (s : State) : Result :=
  .next (moveToMemory .c s)

/-- `MOV M,D`, R122. -/
def execMovMD (s : State) : Result :=
  .next (moveToMemory .d s)

/-- `MOV M,E`, R122. -/
def execMovME (s : State) : Result :=
  .next (moveToMemory .e s)

/-- `MOV M,H`, R122. -/
def execMovMH (s : State) : Result :=
  .next (moveToMemory .h s)

/-- `MOV M,L`, R122. -/
def execMovML (s : State) : Result :=
  .next (moveToMemory .l s)

/-- `MOV M,A`, R122. -/
def execMovMA (s : State) : Result :=
  .next (moveToMemory .a s)

/-- `MOV A,B`, R120. -/
def execMovAB (s : State) : Result :=
  .next (moveRegister .a .b s)

/-- `MOV A,C`, R120. -/
def execMovAC (s : State) : Result :=
  .next (moveRegister .a .c s)

/-- `MOV A,D`, R120. -/
def execMovAD (s : State) : Result :=
  .next (moveRegister .a .d s)

/-- `MOV A,E`, R120. -/
def execMovAE (s : State) : Result :=
  .next (moveRegister .a .e s)

/-- `MOV A,H`, R120. -/
def execMovAH (s : State) : Result :=
  .next (moveRegister .a .h s)

/-- `MOV A,L`, R120. -/
def execMovAL (s : State) : Result :=
  .next (moveRegister .a .l s)

/-- `MOV A,M`, R121. -/
def execMovAM (s : State) : Result :=
  .next (moveFromMemory .a s)

/-- `MOV A,A`, R120. -/
def execMovAA (s : State) : Result :=
  .next (moveRegister .a .a s)

/-- `SPHL`, R129. -/
def execSphl (s : State) : Result :=
  .next (loadSpFromHl s)

end Sys2Proof.Machine
end

