-- ==== Sys2Proof/Machine/Unused.lean ====
section
/-! DEFINITION. The twelve unused codes under both values of `UNDEF_OPCODE_POLICY` (R105, R311). -/

namespace Sys2Proof.Machine

/-- An unused code: under `fault` the model fault with the code, the address it was fetched from, which is one below
PC, since PC has advanced past that byte only, and the state, in which nothing else has changed; under `alias` the
operation of the documented instruction (R105, R311; log 6, 15, 18). -/
def unusedCode (code : Byte) (documented : State → State) (s : State) : Result :=
  match s.params.undefOpcode with
  | .fault => .fault (.undefinedOpcode code (some (s.pc - 1)) s)
  | .aliased => .next (documented s)

/-- `(unused 08)`, R105. -/
def execUnused08 (s : State) : Result :=
  unusedCode 0x08 (fun t => noOperation t) s

/-- `(unused 10)`, R105. -/
def execUnused10 (s : State) : Result :=
  unusedCode 0x10 (fun t => noOperation t) s

/-- `(unused 18)`, R105. -/
def execUnused18 (s : State) : Result :=
  unusedCode 0x18 (fun t => noOperation t) s

/-- `(unused 20)`, R105. -/
def execUnused20 (s : State) : Result :=
  unusedCode 0x20 (fun t => noOperation t) s

/-- `(unused 28)`, R105. -/
def execUnused28 (s : State) : Result :=
  unusedCode 0x28 (fun t => noOperation t) s

/-- `(unused 30)`, R105. -/
def execUnused30 (s : State) : Result :=
  unusedCode 0x30 (fun t => noOperation t) s

/-- `(unused 38)`, R105. -/
def execUnused38 (s : State) : Result :=
  unusedCode 0x38 (fun t => noOperation t) s

/-- `(unused CB)`, R105. -/
def execUnusedCB (adr : Word) (s : State) : Result :=
  unusedCode 0xCB (fun t => jumpTo adr t) s

/-- `(unused D9)`, R105. -/
def execUnusedD9 (s : State) : Result :=
  unusedCode 0xD9 (fun t => returnFrom t) s

/-- `(unused DD)`, R105. -/
def execUnusedDD (adr : Word) (s : State) : Result :=
  unusedCode 0xDD (fun t => callTo adr t) s

/-- `(unused ED)`, R105. -/
def execUnusedED (adr : Word) (s : State) : Result :=
  unusedCode 0xED (fun t => callTo adr t) s

/-- `(unused FD)`, R105. -/
def execUnusedFD (adr : Word) (s : State) : Result :=
  unusedCode 0xFD (fun t => callTo adr t) s

end Sys2Proof.Machine
end

