-- ==== Sys2Proof/Machine/Step.lean ====
section
/-! DEFINITION. One step of the machine (R26, R325), and the placing of an instruction where the next step fetches. -/

namespace Sys2Proof.Machine

/-- One step: the boundary (R325), and if it leads to an instruction, its fetch, its meaning and step (5) (R26). What
the instruction reads must have been written, under `fault_on_read`, and what it writes is marked as written (R351;
log 14). -/
def step (s : State) : Host.Outcome State Fault Refusal :=
  match atBoundary s with
  | .settled o => o
  | .execute s0 =>
    let f := fetchInstr s0
    finishStep f.1 (checked (uses f.1 f.2) f.2 (exec f.1 f.2))

/-- The state whose next step fetches and runs the instruction whose bits are `w` (log 17): its three bytes at PC and
upward, out of the stop state, nothing happening at the coming boundary. -/
def State.withFetchWord (s : State) (nbits w : Nat) : State :=
  { placeBytes s.pc (tableBytes nbits w) s with halted := false, inputs := quietNext s.inputs }

end Sys2Proof.Machine
end

