-- ==== Sys2Proof/Safety.lean ====
section
/-! DEFINITION. What counts as a safe run, when a run is over, and the terms in which statements say what stays
unchanged. -/

namespace Sys2Proof.Machine

/-! ## Runs -/

/-- A step that neither faults nor is refused. -/
def goesOn (s : State) : Bool :=
  match step s with
  | .next _ => true
  | .fault _ => false
  | .refused _ => false

/-- A run of `n` steps is safe when none of them faults (no unused code is executed, R311; under `fault_on_read` nothing
is read that was never written, R351) or is refused (the environment supplies only what R322 defines). -/
def safeRun : Nat → State → Prop
  | 0, _ => True
  | n + 1, s => ∃ t, step s = .next t ∧ safeRun n t

/-- Whether a coming boundary input is a request. -/
def requests (b : BoundaryInput) : Bool := b.request.isSome

/-- A final state (R330 (b)): stopped under `HALT_IS_FINAL`, with no reset scheduled, and with INTE = 0 or no request
scheduled. Such a state steps to itself for ever (log 13). -/
def isFinal (s : State) : Bool :=
  s.params.haltIsFinal && s.halted && !s.inputs.any (fun b => b.reset) && (!s.inte || !s.inputs.any requests)

/-! ## Kinds of addresses -/

/-- The address is `ram`: a write stores, a read returns the cell (R62, R63). -/
def IsRam (s : State) (a : Word) : Prop := memKind s.params a = .ram

/-- A read of the address returns the cell and has no side effect (R62, R73). -/
def ReadsCell (s : State) (a : Word) : Prop := memKind s.params a = .ram ∨ memKind s.params a = .rom

/-! ## Frames: `t` after, `s` before -/

/-- Every 8-bit register is unchanged. -/
def SameRegs (s t : State) : Prop := ∀ r, getReg r t = getReg r s

/-- Every 8-bit register but those listed is unchanged. -/
def SameRegsBut (rs : List Reg) (s t : State) : Prop := ∀ r, r ∉ rs → getReg r t = getReg r s

/-- The control bits, the scheduled inputs, the parameters and the marks of what has been written are unchanged. -/
def SameControl (s t : State) : Prop :=
  t.inte = s.inte ∧ t.eiDelay = s.eiDelay ∧ t.halted = s.halted ∧ t.inputs = s.inputs ∧ t.params = s.params ∧
  t.written = s.written

/-- Nothing passed between the processor and its environment. -/
def SameEvents (s t : State) : Prop :=
  t.history = s.history ∧ t.answers = s.answers ∧ t.draws = s.draws

/-- Every byte of memory reads as before. -/
def SameBytes (s t : State) : Prop := ∀ n, readCell t.mem n = readCell s.mem n

/-- Every byte of memory outside the listed addresses reads as before. -/
def SameBytesBut (addrs : List Word) (s t : State) : Prop :=
  ∀ n, (∀ a ∈ addrs, n ≠ a.toNat) → readCell t.mem n = readCell s.mem n

/-- `t` differs from `s` in the listed registers and the flags only; what passed between the processor and its
environment is what had passed in `r`, the state after the reads of the instruction. -/
def KeepsBut (rs : List Reg) (s r t : State) : Prop :=
  SameRegsBut rs s t ∧ t.sp = s.sp ∧ t.pc = s.pc ∧ SameControl s t ∧ SameBytes s t ∧ SameEvents r t

/-- `t` differs from `s` in the listed registers only. -/
def ChangesOnlyRegs (rs : List Reg) (s t : State) : Prop :=
  KeepsBut rs s s t ∧ t.f = s.f

/-- The stores of an instruction, in order, no address twice: a `ram` cell takes its byte, every other byte of memory
reads as before, a `device` address sees an event (R63). -/
def StoresBytes (ws : List (Word × Byte)) (s t : State) : Prop :=
  (∀ w ∈ ws, IsRam s w.1 → readCell t.mem w.1.toNat = w.2) ∧
  (∀ n, (∀ w ∈ ws, IsRam s w.1 → n ≠ w.1.toNat) → readCell t.mem n = readCell s.mem n) ∧
  t.history = s.history ++
    (ws.filter (fun w => memKind s.params w.1 == .device)).map (fun w => IoEvent.deviceWrite w.1 w.2) ∧
  t.answers = s.answers ∧ t.draws = s.draws

/-- A call: the return address on the stack, high byte at SP - 1 and low byte at SP - 2, SP less by 2, PC at the
target, every register and flag unchanged (R250, R82). -/
def Calls (target : Word) (s t : State) : Prop :=
  t.pc = target ∧ t.sp = s.sp - 2 ∧
  StoresBytes [(s.sp - 1, highByte s.pc), (s.sp - 2, lowByte s.pc)] s t ∧
  SameRegs s t ∧ t.f = s.f

/-- A return: PC from the bytes at SP (low) and SP + 1 (high), read in this order, SP greater by 2, every register,
flag and byte of memory unchanged (R250, R83). -/
def Returns (s t : State) : Prop :=
  t.pc = joinBytes (memRead (s.sp + 1) (memRead s.sp s).2).1 (memRead s.sp s).1 ∧ t.sp = s.sp + 2 ∧
  SameRegs s t ∧ t.f = s.f ∧ SameControl s t ∧ SameBytes s t ∧ SameEvents (memRead (s.sp + 1) (memRead s.sp s).2).2 t

/-! ## What the flags and conditions say -/

/-- The number of one bits of a byte. -/
def oneBits (v : Byte) : Nat := (List.range 8).countP (fun k => v.getLsbD k)

/-- Z, S and P are those of a result byte: zero, bit 7, an even number of ones (R31, R32, R35). -/
def FlagsOf (v : Byte) (f : Flags) : Prop :=
  f.z = decide (v.toNat = 0) ∧ f.s = decide (128 ≤ v.toNat) ∧ f.p = decide (oneBits v % 2 = 0)

/-- The table of R251: when a condition is true. -/
def CondTrue (cond : Cond) (f : Flags) : Prop :=
  match cond with
  | .nz => f.z = false
  | .z => f.z = true
  | .nc => f.cy = false
  | .c => f.cy = true
  | .po => f.p = false
  | .pe => f.p = true
  | .p => f.s = false
  | .m => f.s = true

/-- A and the flags after `A + v + cin` (R36, R37, R51); the rest as `KeepsBut` says. -/
def AddsToA (v : Byte) (cin : Bool) (s r t : State) : Prop :=
  t.a.toNat = (s.a.toNat + v.toNat + cin.toNat) % 256 ∧
  t.f.cy = decide (255 < s.a.toNat + v.toNat + cin.toNat) ∧
  t.f.ac = decide (15 < s.a.toNat % 16 + v.toNat % 16 + cin.toNat) ∧
  FlagsOf t.a t.f ∧ KeepsBut [.a] s r t

/-- The flags after the subtraction `a - v - bin`, CY the borrow and AC the absence of a borrow out of bit 3 (R36, R37,
R52). -/
def SubtractionFlags (a v : Byte) (bin : Bool) (f : Flags) : Prop :=
  f.cy = decide (a.toNat < v.toNat + bin.toNat) ∧
  f.ac = decide (v.toNat % 16 + bin.toNat ≤ a.toNat % 16) ∧
  FlagsOf (BitVec.ofNat 8 (256 + a.toNat - v.toNat - bin.toNat)) f

/-- A and the flags after `A - v - bin`; the rest as `KeepsBut` says. -/
def SubtractsFromA (v : Byte) (bin : Bool) (s r t : State) : Prop :=
  t.a.toNat = (256 + s.a.toNat - v.toNat - bin.toNat) % 256 ∧
  SubtractionFlags s.a v bin t.f ∧ KeepsBut [.a] s r t

/-- A is `result`, Z, S and P are its, CY is 0, AC as given; the rest as `KeepsBut` says (R208 to R213). -/
def LogicLeaves (result : Byte) (ac : Bool) (s r t : State) : Prop :=
  t.a = result ∧ t.f.cy = false ∧ t.f.ac = ac ∧ FlagsOf result t.f ∧ KeepsBut [.a] s r t

/-- The value of a packed-BCD byte. -/
def bcdValue (v : Byte) : Nat := 10 * (v.toNat / 16) + v.toNat % 16

/-- Both digits are at most 9. -/
def ValidBcd (v : Byte) : Prop := v.toNat / 16 ≤ 9 ∧ v.toNat % 16 ≤ 9

/-! ## What has been written (R351) -/

/-- The value of a flag. -/
def flagValue (n : FlagName) (f : Flags) : Bool :=
  match n with
  | .s => f.s
  | .z => f.z
  | .ac => f.ac
  | .p => f.p
  | .cy => f.cy

/-- The value of a register, a flag or SP, as a number. -/
def itemValue (x : Item) (s : State) : Nat :=
  match x with
  | .reg r => (getReg r s).toNat
  | .flag n => (flagValue n s.f).toNat
  | .sp => s.sp.toNat

/-- The two states agree on everything but the values of the registers, flags and SP that are not in the list. -/
def AgreeOn (known : List Item) (s t : State) : Prop :=
  (∀ x ∈ known, itemValue x t = itemValue x s) ∧ t.pc = s.pc ∧ t.mem = s.mem ∧ SameControl s t ∧ SameEvents s t

/-- Under `fault_on_read`, everything listed has been written (R351); under `any_value`, nothing is asked. -/
def MayRead (xs : List Item) (s : State) : Prop :=
  s.params.resetUnspecified = .faultOnRead → ∀ x ∈ xs, x ∈ s.written

/-! ## Encodings and families of instructions -/

/-- `bytes` are the encoding of `i`: the encoder gives them, and the decoder reads them as `i` whatever follows. -/
def EncodedAs (i : Instr) (bytes : List Byte) : Prop :=
  encode i = bytes ∧ ∀ rest, decode (bytes ++ rest) = .ok (i, rest)

/-- The instructions of group 8, which may put an address into PC (R249), and the unused codes that run as one of
them under `alias` (R105). -/
def transfersControl (i : Instr) : Prop :=
  (∃ adr, i = .jmp adr ∨ i = .call adr ∨ i = .unusedCB adr ∨ i = .unusedDD adr ∨ i = .unusedED adr ∨ i = .unusedFD adr) ∨
  (∃ cond adr, i = .jumpCond cond adr ∨ i = .callCond cond adr) ∨ (∃ cond, i = .retCond cond) ∨ (∃ n, i = .rst n) ∨
  i = .pchl ∨ i = .ret ∨ i = .unusedD9

/-- The instructions that have a row of their own in the table of R38; every other one writes no flag. -/
def writesFlags (i : Instr) : Prop :=
  (∃ op o, i = .alu op o) ∨ (∃ op v, i = .aluImm op v) ∨ (∃ o, i = .inr o ∨ i = .dcr o) ∨ (∃ p, i = .dad p) ∨
  i = .daa ∨ i = .rlc ∨ i = .rrc ∨ i = .ral ∨ i = .rar ∨ i = .stc ∨ i = .cmc ∨ i = .popPSW

/-- An instruction carried out `n` times in a row, without the fetches. -/
def repeatExec (i : Instr) : Nat → State → Result
  | 0, s => .next s
  | n + 1, s =>
    match exec i s with
    | .next t => repeatExec i n t
    | .fault r => .fault r
    | .refused r => .refused r

end Sys2Proof.Machine
end

