-- ==== Sys2Proof/Certificates/Slice0/Obligations.lean ====
section
/-! DEFINITION. The statements for the provers. -/

open Sys2Proof Sys2Proof.Machine

/-! ## Encoding -/

/-- Decoding the encoding of any instruction gives it back, whatever bytes follow (30_encoding.md). -/
def Obligations.DecodeEncodeRoundTrip : Prop :=
  ∀ (i : Instr) (rest : List Byte), decode (encode i ++ rest) = .ok (i, rest)

/-- The encoding of a decoded instruction is the bytes it was decoded from: the map of R101 and the field patterns of
R94 to R98 give the same bytes. -/
def Obligations.EncodeReturnsDecodedBytes : Prop :=
  ∀ (bytes : List Byte) (i : Instr) (rest : List Byte), decode bytes = .ok (i, rest) → encode i ++ rest = bytes

/-- The four codes that R102 states decode to the instructions it names, and C3 and B8 to JMP and CMP B. -/
def Obligations.QuotedOpcodesDecode : Prop :=
  decode [0b01111001] = .ok (.movAC, []) ∧
  (∀ v, decode [0b00110110, v] = .ok (.mviM v, [])) ∧
  (∀ lo hi, decode [0b00111010, lo, hi] = .ok (.lda (joinBytes hi lo), [])) ∧
  decode [0b10110001] = .ok (.oraC, []) ∧
  (∀ lo hi, decode [0xC3, lo, hi] = .ok (.jmp (joinBytes hi lo), [])) ∧
  decode [0xB8] = .ok (.cmpB, [])

/-- The length an opcode gives its instruction, by the lists of R100. -/
def Obligations.OpcodeLengths : Prop :=
  ∀ op : Byte, opcodeLength op =
    if op ∈ [0x06, 0x0E, 0x16, 0x1E, 0x26, 0x2E, 0x36, 0x3E, 0xC6, 0xCE, 0xD3, 0xD6, 0xDB, 0xDE, 0xE6, 0xEE, 0xF6, 0xFE]
    then 2
    else if op ∈ [0x01, 0x11, 0x21, 0x22, 0x2A, 0x31, 0x32, 0x3A, 0xC2, 0xC3, 0xC4, 0xCA, 0xCC, 0xCD, 0xD2, 0xD4, 0xDA,
      0xDC, 0xE2, 0xE4, 0xEA, 0xEC, 0xF2, 0xF4, 0xFA, 0xFC] then 3
    else if op ∈ [0xCB, 0xDD, 0xED, 0xFD] then 3
    else 1

/-- Exactly the twelve codes of R105 decode to an instruction that is not well formed. -/
def Obligations.UnusedCodesAreTwelve : Prop :=
  unusedCodes.length = 12 ∧ unusedCodes.Nodup ∧
  ∀ op b2 b3 : Byte, ∃ i rest, decode [op, b2, b3] = .ok (i, rest) ∧ (i.wellFormed = false ↔ op ∈ unusedCodes)

/-! ## Memory, ports, stack -/

/-- What a byte read returns and does, by the kind of the address (R62). -/
def Obligations.MemReadByKind : Prop :=
  ∀ (a : Word) (s : State),
    (ReadsCell s a → memRead a s = (readCell s.mem a.toNat, s)) ∧
    (memKind s.params a = .absent → memRead a s = (Config.absentByte s.draws, { s with draws := s.draws + 1 })) ∧
    (memKind s.params a = .device → ∃ v, (v = s.answers.headD (Config.deviceOracle a s.history)) ∧
      memRead a s = (v, { s with history := s.history ++ [.deviceRead a v], answers := s.answers.tail })) ∧
    (s.params.memMap = [] → memKind s.params a = .ram)

/-- What a byte write changes, by the kind of the address (R63). -/
def Obligations.MemWriteByKind : Prop :=
  ∀ (a : Word) (v : Byte) (s : State),
    (IsRam s a → readCell (memWrite a v s).mem a.toNat = v ∧ SameBytesBut [a] s (memWrite a v s) ∧
      memWrite a v s = { s with mem := (memWrite a v s).mem }) ∧
    (memKind s.params a = .rom ∨ memKind s.params a = .absent → memWrite a v s = s) ∧
    (memKind s.params a = .device → memWrite a v s = { s with history := s.history ++ [.deviceWrite a v] })

/-- A read of a `ram` cell returns the byte last stored there, and a store leaves every other readable cell as it was
(R62, R74). -/
def Obligations.RamReadReturnsLastWrite : Prop :=
  ∀ (a b : Word) (v : Byte) (s : State), IsRam s a → ReadsCell s b →
    (memRead b (memWrite a v s)).1 = if b = a then v else (memRead b s).1

/-- `Push16(v)`: the two bytes, their order and their places, SP, and nothing else (R82). -/
def Obligations.PushStoresWord : Prop :=
  ∀ (v : Word) (s : State),
    (push16 v s).sp = s.sp - 2 ∧
    StoresBytes [(s.sp - 1, highByte v), (s.sp - 2, lowByte v)] s (push16 v s) ∧
    SameRegs s (push16 v s) ∧ (push16 v s).f = s.f ∧ (push16 v s).pc = s.pc ∧ SameControl s (push16 v s)

/-- `Pop16()`: the two bytes read, SP, memory untouched; and after `Push16(v)` into two `ram` cells it returns `v` and
restores SP (R83). -/
def Obligations.PopReadsWord : Prop :=
  (∀ s : State, ∃ lo hi : Byte × State, lo = memRead s.sp s ∧ hi = memRead (s.sp + 1) lo.2 ∧
    (pop16 s).1 = joinBytes hi.1 lo.1 ∧ (pop16 s).2 = { hi.2 with sp := s.sp + 2 } ∧ SameBytes s (pop16 s).2) ∧
  (∀ (v : Word) (s : State), IsRam s (s.sp - 1) → IsRam s (s.sp - 2) →
    (pop16 (push16 v s)).1 = v ∧ (pop16 (push16 v s)).2.sp = s.sp)

/-- `IN N` gives A the byte the environment chooses and records the read; `OUT N` records A and changes nothing else;
neither writes a flag (R160, R161, R64, R65). -/
def Obligations.PortInstructions : Prop :=
  ∀ (n : Byte) (s : State),
    EncodedAs (.inN n) [0xDB, n] ∧ EncodedAs (.outN n) [0xD3, n] ∧
    (∃ t v, exec (.inN n) s = .next t ∧ v = s.answers.headD (Config.inOracle n s.history) ∧ t.a = v ∧
      t.history = s.history ++ [.portRead n v] ∧ t.answers = s.answers.tail ∧ t.draws = s.draws ∧
      SameRegsBut [.a] s t ∧ t.f = s.f ∧ t.sp = s.sp ∧ t.pc = s.pc ∧ SameControl s t ∧ SameBytes s t) ∧
    (∃ t, exec (.outN n) s = .next t ∧ t.history = s.history ++ [.portWrite n s.a] ∧ t.answers = s.answers ∧
      t.draws = s.draws ∧ SameRegs s t ∧ t.f = s.f ∧ t.sp = s.sp ∧ t.pc = s.pc ∧ SameControl s t ∧ SameBytes s t)

/-! ## The step, reset, the stop state, the interrupt -/

/-- A step at a boundary where nothing happens runs the instruction that the bytes at PC decode to: `exec` on the
state with PC past its bytes, then step (5), which clears EIDelay unless the instruction was EI (R26). What the
instruction writes is marked as written; under `fault_on_read` what it reads must have been (R351; log 14). -/
def Obligations.StepRunsDecodedInstruction : Prop :=
  ∀ (s : State) (i : Instr) (rest : List Byte),
    s.halted = false → (currentInput s).reset = false → (currentInput s).request = none →
    ReadsCell s s.pc → ReadsCell s (s.pc + 1) → ReadsCell s (s.pc + 2) →
    decode [readCell s.mem s.pc.toNat, readCell s.mem (s.pc + 1).toNat, readCell s.mem (s.pc + 2).toNat] = .ok (i, rest) →
    i.wellFormed = true → MayRead (uses i s).reads s →
    step s =
      match exec i { s with pc := s.pc + BitVec.ofNat 16 (encode i).length, inputs := s.inputs.tail } with
      | .next t => .next (markItems (uses i s).writes (if i = .ei then t else { t with eiDelay := false }))
      | .fault r => .fault r
      | .refused r => .refused r

/-- Right after reset: PC, INTE, EIDelay and Halted by R48, the parameters at the defaults of R6, nothing marked as
written (log 14), memory in its canonical form (log 5). -/
def Obligations.ResetState : Prop :=
  State.reset.pc = 0x0000 ∧ State.reset.inte = false ∧ State.reset.eiDelay = false ∧ State.reset.halted = false ∧
  State.reset.params.undefOpcode = .fault ∧ State.reset.params.anaAc = .zero ∧
  (∀ a, memKind State.reset.params a = .ram) ∧ State.reset.params.haltIsFinal = true ∧
  State.reset.params.resetUnspecified = .anyValue ∧ State.reset.written = [] ∧ State.reset.inputs = [] ∧ State.reset.mem.wf

/-- When the environment applies reset, PC, INTE, EIDelay and Halted take their values and nothing else changes,
whether the processor runs or is stopped and whether or not a request is present (R350). -/
def Obligations.ResetEvent : Prop :=
  ∀ s : State, (currentInput s).reset = true →
    step s = .next { s with
      pc := 0x0000, inte := false, eiDelay := false, halted := false, inputs := s.inputs.tail }

/-- Every step keeps the canonical form of memory (log 5). -/
def Obligations.StepKeepsMemoryForm : Prop :=
  ∀ s t : State, s.mem.wf → step s = .next t → t.mem.wf

/-- No step changes a byte at an address that is not `ram` (R63). -/
def Obligations.OnlyRamChanges : Prop :=
  ∀ (s t : State) (a : Word), step s = .next t → memKind s.params a ≠ .ram →
    readCell t.mem a.toNat = readCell s.mem a.toNat

/-- Every step keeps the parameters, takes one boundary input, only adds to the end of the history, only takes bytes
from the front of the answers, and takes no mark of what has been written back (R6, R65, R74, R351). -/
def Obligations.StepExtendsHistory : Prop :=
  ∀ s t : State, step s = .next t →
    t.params = s.params ∧ t.inputs = s.inputs.tail ∧ (∃ more, t.history = s.history ++ more) ∧
    (∃ taken, s.answers = taken ++ t.answers) ∧ s.draws ≤ t.draws ∧ ∀ x ∈ s.written, x ∈ t.written

/-- In the stop state, with no reset and no accepted request, nothing is fetched and nothing changes (R42). -/
def Obligations.StopStateWaits : Prop :=
  ∀ s : State, s.halted = true → (currentInput s).reset = false →
    ((currentInput s).request = none ∨ s.inte = false ∨ s.eiDelay = true) →
    step s = .next { s with inputs := s.inputs.tail }

/-- Only a reset or an accepted request leaves the stop state (R345). -/
def Obligations.OnlyResetOrInterruptLeavesStop : Prop :=
  ∀ s t : State, s.halted = true → step s = .next t → t.halted = false →
    (currentInput s).reset = true ∨ ((currentInput s).request ≠ none ∧ s.inte = true ∧ s.eiDelay = false)

/-- Only HLT enters the stop state, and HLT does (R42, R301). -/
def Obligations.OnlyHltStops : Prop :=
  ∀ s t : State, s.halted = false → (currentInput s).reset = false → (currentInput s).request = none →
    step s = .next t → (t.halted = true ↔ (fetchInstr (afterInput s)).1 = .hlt)

/-- Only EI sets INTE (R40). -/
def Obligations.OnlyEiEnables : Prop :=
  ∀ s t : State, s.inte = false → step s = .next t → t.inte = true →
    s.halted = false ∧ (currentInput s).reset = false ∧ (fetchInstr (afterInput s)).1 = .ei

/-- EIDelay after an executed instruction is 1 exactly when it was EI (R41, R26 step (5)). -/
def Obligations.EiDelayAfterStep : Prop :=
  ∀ s t : State, s.halted = false → (currentInput s).reset = false →
    ((currentInput s).request = none ∨ s.inte = false ∨ s.eiDelay = true) → step s = .next t →
    (t.eiDelay = true ↔ (fetchInstr (afterInput s)).1 = .ei)

/-- An accepted request: INTE, Halted and EIDelay cleared, the unadvanced PC on the stack, control at `8 * n` for a
supplied RST n and at ADR for a supplied CALL, everything else unchanged, SP marked as written (R322, R323); under
`fault_on_read` SP must have been written (R351; log 14). -/
def Obligations.AcceptedInterruptEntry : Prop :=
  ∀ (s : State) (bytes : List Byte) (target : Word),
    s.inte = true → s.eiDelay = false → (currentInput s).reset = false → (currentInput s).request = some bytes →
    ((∃ n : Fin 8, bytes = encode (.rst n) ∧ target = BitVec.ofNat 16 (8 * n.val)) ∨ bytes = encode (.call target)) →
    MayRead [.sp] s →
    ∃ t, step s = .next t ∧ t.inte = false ∧ t.halted = false ∧ t.eiDelay = false ∧ Calls target s t ∧
      t.inputs = s.inputs.tail ∧ t.params = s.params ∧ ∀ x, x ∈ t.written ↔ x ∈ s.written ∨ x = .sp

/-- A request with INTE = 0 or EIDelay = 1 has no effect at this boundary: the step is the one of a quiet boundary
(R321). -/
def Obligations.RequestNotAccepted : Prop :=
  ∀ (s : State) (bytes : List Byte) (later : List BoundaryInput),
    s.inputs = { reset := false, request := some bytes } :: later → s.inte = false ∨ s.eiDelay = true →
    step s = step { s with inputs := .quiet :: later }

/-- An accepted request whose device supplies an unused code faults under `fault`, after points (1) and (2) of R322 and
with PC not advanced, and one that supplies neither RST n nor CALL nor an unused code is refused (R322, R311; the state
of the supplied fault is the model's reading, log 15). -/
def Obligations.SuppliedOtherStops : Prop :=
  ∀ (s : State) (op : Byte) (rest : List Byte),
    s.inte = true → s.eiDelay = false → (currentInput s).reset = false → (currentInput s).request = some (op :: rest) →
    (op ∈ unusedCodes → s.params.undefOpcode = .fault →
      step s = .fault (.undefinedOpcode op none { s with inte := false, halted := false, inputs := s.inputs.tail })) ∧
    (op ∉ unusedCodes → op ≠ 0xCD → (∀ n : Fin 8, [op] ≠ encode (.rst n)) →
      step s = .refused (.suppliedInstruction op))

/-- After an accepted request with the stack in `ram`, a RET with nothing between goes back to the instruction that had
not started, with SP, registers and flags as they were and INTE = 0 (R323, R324). -/
def Obligations.InterruptThenReturn : Prop :=
  ∀ (s : State) (n : Fin 8), s.inte = true → s.eiDelay = false → (currentInput s).reset = false →
    (currentInput s).request = some (encode (.rst n)) → IsRam s (s.sp - 1) → IsRam s (s.sp - 2) →
    MayRead [.sp] s →
    ∃ t u, step s = .next t ∧ exec .ret t = .next u ∧ u.pc = s.pc ∧ u.sp = s.sp ∧ SameRegs s u ∧ u.f = s.f ∧
      u.inte = false

/-! ## Every instruction -/

/-- No instruction of the instruction set faults or is refused: each completes from every state (R310). -/
def Obligations.UsedInstructionsComplete : Prop :=
  ∀ (i : Instr) (s : State), i.wellFormed = true → ∃ t, exec i s = .next t ∧ t.params = s.params ∧ t.inputs = s.inputs

/-- Fetching an unused code under `fault` ends the run in the fault with the code, the address it was fetched from, and
the state: PC past that byte, nothing else changed but what the fetch of the byte does (R311, R105). -/
def Obligations.UnusedCodeFaults : Prop :=
  ∀ s : State, s.halted = false → (currentInput s).reset = false → (currentInput s).request = none →
    s.params.undefOpcode = .fault → (memRead s.pc s).1 ∈ unusedCodes →
    step s = .fault (.undefinedOpcode (memRead s.pc s).1 (some s.pc)
      { (memRead s.pc s).2 with pc := s.pc + 1, inputs := s.inputs.tail })

/-- Under `alias` an unused code runs as the documented instruction R105 names: NOP, JMP ADR, RET or CALL ADR. -/
def Obligations.UnusedCodeRunsAsDocumented : Prop :=
  ∀ (s : State) (adr : Word), s.params.undefOpcode = .aliased →
    (∀ i ∈ [Instr.unused08, .unused10, .unused18, .unused20, .unused28, .unused30, .unused38], exec i s = .next s) ∧
    exec (.unusedCB adr) s = .next { s with pc := adr } ∧
    (∃ t, exec .unusedD9 s = .next t ∧ Returns s t) ∧
    (∀ i ∈ [Instr.unusedDD adr, .unusedED adr, .unusedFD adr],
      ∃ t, exec i s = .next t ∧ Calls adr s t ∧ SameControl s t)

/-- An instruction outside the control group leaves PC at the instruction that follows it (R249, R25). -/
def Obligations.PcMovesPastInstruction : Prop :=
  ∀ (i : Instr) (s t : State), ¬ transfersControl i → exec i s = .next t → t.pc = s.pc

/-- An instruction without a row of its own in the table of R38 writes no flag. -/
def Obligations.FlagsWrittenOnlyByTable : Prop :=
  ∀ (i : Instr) (s t : State), ¬ writesFlags i → exec i s = .next t → t.f = s.f

/-! ## What has been written (R351, R23, R38, R39) -/

/-- Under `fault_on_read` an instruction that reads a register or flag nothing has written ends the run in the fault,
with such an item and the state after the fetch, and so does an accepted RST n or CALL where SP was never written; no
step ends in this fault under `any_value` or for an item that has been written (R351; log 14). -/
def Obligations.UnwrittenReadFaults : Prop :=
  (∀ (s : State) (i : Instr) (rest : List Byte),
    s.halted = false → (currentInput s).reset = false → (currentInput s).request = none →
    ReadsCell s s.pc → ReadsCell s (s.pc + 1) → ReadsCell s (s.pc + 2) →
    decode [readCell s.mem s.pc.toNat, readCell s.mem (s.pc + 1).toNat, readCell s.mem (s.pc + 2).toNat] = .ok (i, rest) →
    i.wellFormed = true → ¬ MayRead (uses i s).reads s →
    ∃ x ∈ (uses i s).reads, x ∉ s.written ∧ step s = .fault (.unwrittenRead x
      { s with pc := s.pc + BitVec.ofNat 16 (encode i).length, inputs := s.inputs.tail })) ∧
  (∀ (s : State) (bytes : List Byte) (target : Word),
    s.inte = true → s.eiDelay = false → (currentInput s).reset = false → (currentInput s).request = some bytes →
    ((∃ n : Fin 8, bytes = encode (.rst n)) ∨ bytes = encode (.call target)) → ¬ MayRead [.sp] s →
    step s = .fault (.unwrittenRead .sp { s with inte := false, halted := false, inputs := s.inputs.tail })) ∧
  (∀ (s u : State) (x : Item), step s = .fault (.unwrittenRead x u) →
    s.params.resetUnspecified = .faultOnRead ∧ x ∉ s.written)

/-- The registers, flags and SP that instructions read and write, row by row of the table of R23 with the flags of R38
and R39; the conditional calls and returns touch SP only when their condition is true (log 14). -/
def Obligations.UsesFollowTables : Prop :=
  ∀ (r q : Reg) (p : RegPair) (x : Pair) (o : Operand8) (cond : Cond) (v : Byte) (w : Word) (n : Fin 8) (s : State),
    uses (.mov r q) s = ⟨[.reg q], [.reg r]⟩ ∧ uses (.mvi r v) s = ⟨[], [.reg r]⟩ ∧
    uses (.movFromM r) s = ⟨[.reg .h, .reg .l], [.reg r]⟩ ∧ uses (.movToM r) s = ⟨[.reg r, .reg .h, .reg .l], []⟩ ∧
    uses (.mviM v) s = ⟨[.reg .h, .reg .l], []⟩ ∧ uses .sphl s = ⟨[.reg .h, .reg .l], [.sp]⟩ ∧
    uses .ldaxB s = ⟨[.reg .b, .reg .c], [.reg .a]⟩ ∧ uses .ldaxD s = ⟨[.reg .d, .reg .e], [.reg .a]⟩ ∧
    uses .staxB s = ⟨[.reg .a, .reg .b, .reg .c], []⟩ ∧ uses .staxD s = ⟨[.reg .a, .reg .d, .reg .e], []⟩ ∧
    uses (.lda w) s = ⟨[], [.reg .a]⟩ ∧ uses (.sta w) s = ⟨[.reg .a], []⟩ ∧
    uses (.lxi x w) s = ⟨[], pairItems x⟩ ∧
    uses (.lhld w) s = ⟨[], [.reg .h, .reg .l]⟩ ∧ uses (.shld w) s = ⟨[.reg .h, .reg .l], []⟩ ∧
    uses (.push p) s = ⟨pairItems (.rp p) ++ [.sp], [.sp]⟩ ∧ uses (.pop p) s = ⟨[.sp], pairItems (.rp p) ++ [.sp]⟩ ∧
    uses .pushPSW s = ⟨.reg .a :: flagItems ++ [.sp], [.sp]⟩ ∧ uses .popPSW s = ⟨[.sp], .reg .a :: flagItems ++ [.sp]⟩ ∧
    uses (.inN v) s = ⟨[], [.reg .a]⟩ ∧ uses (.outN v) s = ⟨[.reg .a], []⟩ ∧
    uses .xchg s = ⟨[.reg .d, .reg .e, .reg .h, .reg .l], [.reg .d, .reg .e, .reg .h, .reg .l]⟩ ∧
    uses .xthl s = ⟨[.reg .h, .reg .l, .sp], [.reg .h, .reg .l]⟩ ∧
    (∀ i ∈ [Instr.inr (.reg r), .dcr (.reg r)],
      uses i s = ⟨[.reg r], [.reg r, .flag .s, .flag .z, .flag .ac, .flag .p]⟩) ∧
    (∀ i ∈ [Instr.inr .m, .dcr .m],
      uses i s = ⟨[.reg .h, .reg .l], [.flag .s, .flag .z, .flag .ac, .flag .p]⟩) ∧
    (∀ i ∈ [Instr.inx x, .dcx x], uses i s = ⟨pairItems x, pairItems x⟩) ∧
    uses .cma s = ⟨[.reg .a], [.reg .a]⟩ ∧ uses .stc s = ⟨[], [.flag .cy]⟩ ∧
    uses .cmc s = ⟨[.flag .cy], [.flag .cy]⟩ ∧
    uses .daa s = ⟨[.reg .a, .flag .cy, .flag .ac], .reg .a :: flagItems⟩ ∧
    (∀ op ∈ [AluOp.add, .sub, .ana, .xra, .ora],
      uses (.alu op o) s = ⟨.reg .a :: operandItems o, .reg .a :: flagItems⟩ ∧
      uses (.aluImm op v) s = ⟨[.reg .a], .reg .a :: flagItems⟩) ∧
    (∀ op ∈ [AluOp.adc, .sbb],
      uses (.alu op o) s = ⟨.reg .a :: operandItems o ++ [.flag .cy], .reg .a :: flagItems⟩ ∧
      uses (.aluImm op v) s = ⟨[.reg .a, .flag .cy], .reg .a :: flagItems⟩) ∧
    uses (.alu .cmp o) s = ⟨.reg .a :: operandItems o, flagItems⟩ ∧ uses (.cpi v) s = ⟨[.reg .a], flagItems⟩ ∧
    uses (.dad x) s = ⟨[.reg .h, .reg .l] ++ pairItems x, [.reg .h, .reg .l, .flag .cy]⟩ ∧
    (∀ i ∈ [Instr.rlc, .rrc], uses i s = ⟨[.reg .a], [.reg .a, .flag .cy]⟩) ∧
    (∀ i ∈ [Instr.ral, .rar], uses i s = ⟨[.reg .a, .flag .cy], [.reg .a, .flag .cy]⟩) ∧
    uses (.jumpCond cond w) s = ⟨[condItem cond], []⟩ ∧ uses .pchl s = ⟨[.reg .h, .reg .l], []⟩ ∧
    (∀ i ∈ [Instr.call w, .rst n, .ret], uses i s = ⟨[.sp], [.sp]⟩) ∧
    (∀ i ∈ [Instr.callCond cond w, .retCond cond],
      (CondTrue cond s.f → uses i s = ⟨[condItem cond, .sp], [.sp]⟩) ∧
      (¬ CondTrue cond s.f → uses i s = ⟨[condItem cond], []⟩)) ∧
    (∀ i ∈ [Instr.jmp w, .nop, .hlt, .ei, .di], uses i s = ⟨[], []⟩)

/-- An instruction leaves every register, flag and SP outside its writes as it was, and what it does depends on no
other ones than its reads: from two states that agree on those and on everything else, it makes next states that agree
on what it writes and on everything else (R23, R38, R39). -/
def Obligations.UsesCoverEffects : Prop :=
  ∀ (i : Instr) (s t : State), exec i s = .next t →
    (∀ x, x ∉ (uses i s).writes → itemValue x t = itemValue x s) ∧
    ∀ s', AgreeOn (uses i s).reads s s' →
      uses i s' = uses i s ∧ ∃ t', exec i s' = .next t' ∧ AgreeOn (uses i s).writes t t'

/-- Under `fault_on_read` no step depends on what was never written: from two states that agree on the written items
and on everything else, a step makes next states that agree so again (R351, R48). -/
def Obligations.StepIgnoresUnwritten : Prop :=
  ∀ s t s' : State, s.params.resetUnspecified = .faultOnRead → step s = .next t → AgreeOn s.written s s' →
    ∃ t', step s' = .next t' ∧ AgreeOn t.written t t'

/-! ## Groups 1, 2 and 4: transfers and exchanges -/

/-- `MOV r1,r2`, `MVI r,D8`, `LXI rp,D16` for the pairs and for SP, and `SPHL`: the destination, and nothing else
(R120, R127, R129, R140). -/
def Obligations.RegisterTransfers : Prop :=
  ∀ (dst src : Reg) (v : Byte) (w : Word) (s : State),
    EncodedAs (.mov dst src) [0b01#2 ++ regCode dst ++ regCode src] ∧
    EncodedAs (.mvi dst v) [0b00#2 ++ regCode dst ++ 0b110#3, v] ∧
    (∀ p : Pair, EncodedAs (.lxi p w) [0b00#2 ++ pairCode p ++ 0b0001#4, lowByte w, highByte w]) ∧
    EncodedAs .sphl [0xF9] ∧
    (∃ t, exec (.mov dst src) s = .next t ∧ getReg dst t = getReg src s ∧ ChangesOnlyRegs [dst] s t) ∧
    (∃ t, exec (.mvi dst v) s = .next t ∧ getReg dst t = v ∧ ChangesOnlyRegs [dst] s t) ∧
    (∀ x ∈ [(RegPair.bc, Reg.b, Reg.c), (.de, .d, .e), (.hl, .h, .l)],
      ∃ t, exec (.lxi (.rp x.1) w) s = .next t ∧ getReg x.2.1 t = highByte w ∧ getReg x.2.2 t = lowByte w ∧
        ChangesOnlyRegs [x.2.1, x.2.2] s t) ∧
    exec (.lxi .sp w) s = .next { s with sp := w } ∧
    exec .sphl s = .next { s with sp := joinBytes s.h s.l }

/-- `MOV r,M`, `LDAX B`, `LDAX D` and `LDA ADR` put the byte read at their address into their register and change
nothing else (R121, R124, R126). -/
def Obligations.LoadsFromMemory : Prop :=
  ∀ (dst : Reg) (adr : Word) (s : State),
    EncodedAs (.movFromM dst) [0b01#2 ++ regCode dst ++ 0b110#3] ∧ EncodedAs .ldaxB [0x0A] ∧ EncodedAs .ldaxD [0x1A] ∧
    EncodedAs (.lda adr) [0x3A, lowByte adr, highByte adr] ∧
    ∀ x ∈ [(Instr.movFromM dst, dst, joinBytes s.h s.l), (.ldaxB, .a, joinBytes s.b s.c),
        (.ldaxD, .a, joinBytes s.d s.e), (.lda adr, .a, adr)],
      ∃ t, exec x.1 s = .next t ∧ getReg x.2.1 t = (memRead x.2.2 s).1 ∧
        KeepsBut [x.2.1] s (memRead x.2.2 s).2 t ∧ t.f = s.f

/-- `MOV M,r`, `MVI M,D8`, `STAX B`, `STAX D` and `STA ADR` store their byte at their address and change nothing else
(R122, R123, R125, R128). -/
def Obligations.StoresToMemory : Prop :=
  ∀ (src : Reg) (v : Byte) (adr : Word) (s : State),
    EncodedAs (.movToM src) [0b01#2 ++ 0b110#3 ++ regCode src] ∧ EncodedAs (.mviM v) [0x36, v] ∧
    EncodedAs .staxB [0x02] ∧ EncodedAs .staxD [0x12] ∧ EncodedAs (.sta adr) [0x32, lowByte adr, highByte adr] ∧
    ∀ x ∈ [(Instr.movToM src, joinBytes s.h s.l, getReg src s), (.mviM v, joinBytes s.h s.l, v),
        (.staxB, joinBytes s.b s.c, s.a), (.staxD, joinBytes s.d s.e, s.a), (.sta adr, adr, s.a)],
      ∃ t, exec x.1 s = .next t ∧ StoresBytes [(x.2.1, x.2.2)] s t ∧
        SameRegs s t ∧ t.f = s.f ∧ t.sp = s.sp ∧ t.pc = s.pc ∧ SameControl s t

/-- `SHLD ADR` stores L at ADR and H at ADR + 1, `LHLD ADR` loads L from ADR and then H from ADR + 1; nothing else
changes (R141, R142). -/
def Obligations.DirectPairTransfers : Prop :=
  ∀ (adr : Word) (s : State),
    EncodedAs (.shld adr) [0x22, lowByte adr, highByte adr] ∧ EncodedAs (.lhld adr) [0x2A, lowByte adr, highByte adr] ∧
    (∃ t, exec (.shld adr) s = .next t ∧ StoresBytes [(adr, s.l), (adr + 1, s.h)] s t ∧
      SameRegs s t ∧ t.f = s.f ∧ t.sp = s.sp ∧ t.pc = s.pc ∧ SameControl s t) ∧
    (∃ t, exec (.lhld adr) s = .next t ∧
      t.l = (memRead adr s).1 ∧ t.h = (memRead (adr + 1) (memRead adr s).2).1 ∧
      KeepsBut [.h, .l] s (memRead (adr + 1) (memRead adr s).2).2 t ∧ t.f = s.f)

/-- `PUSH rp` and `PUSH PSW` store their word below SP, high byte first, and change SP and nothing else (R143, R144). -/
def Obligations.PushInstructions : Prop :=
  ∀ s : State,
    EncodedAs .pushB [0xC5] ∧ EncodedAs .pushD [0xD5] ∧ EncodedAs .pushH [0xE5] ∧ EncodedAs .pushPSW [0xF5] ∧
    ∀ x ∈ [(Instr.pushB, s.b, s.c), (.pushD, s.d, s.e), (.pushH, s.h, s.l), (.pushPSW, s.a, packFlags s.f)],
      ∃ t, exec x.1 s = .next t ∧ t.sp = s.sp - 2 ∧
        StoresBytes [(s.sp - 1, x.2.1), (s.sp - 2, x.2.2)] s t ∧
        SameRegs s t ∧ t.f = s.f ∧ t.pc = s.pc ∧ SameControl s t

/-- `POP rp` loads its low register from SP and its high register from SP + 1; `POP PSW` loads the five flags from the
byte at SP and A from SP + 1; SP grows by 2 and nothing else changes (R145, R146). -/
def Obligations.PopInstructions : Prop :=
  ∀ (s : State) (lo hi : Byte × State), lo = memRead s.sp s → hi = memRead (s.sp + 1) lo.2 →
    EncodedAs .popB [0xC1] ∧ EncodedAs .popD [0xD1] ∧ EncodedAs .popH [0xE1] ∧ EncodedAs .popPSW [0xF1] ∧
    (∀ x ∈ [(Instr.popB, Reg.b, Reg.c), (.popD, .d, .e), (.popH, .h, .l)],
      ∃ t, exec x.1 s = .next t ∧ getReg x.2.1 t = hi.1 ∧ getReg x.2.2 t = lo.1 ∧ t.f = s.f ∧
        t.sp = s.sp + 2 ∧ t.pc = s.pc ∧ SameRegsBut [x.2.1, x.2.2] s t ∧ SameControl s t ∧ SameBytes s t ∧
        SameEvents hi.2 t) ∧
    (∃ t, exec .popPSW s = .next t ∧ t.a = hi.1 ∧
      t.f = { s := lo.1.getLsbD 7, z := lo.1.getLsbD 6, ac := lo.1.getLsbD 4, p := lo.1.getLsbD 2, cy := lo.1.getLsbD 0 } ∧
      t.sp = s.sp + 2 ∧ t.pc = s.pc ∧ SameRegsBut [.a] s t ∧ SameControl s t ∧ SameBytes s t ∧ SameEvents hi.2 t)

/-- The byte form of F: the places of the bits by the sum of R33, `unpack`, and `pack(unpack(b))` (R33). -/
def Obligations.FlagByteLayout : Prop :=
  (∀ f : Flags, (packFlags f).toNat =
    f.s.toNat * 128 + f.z.toNat * 64 + f.ac.toNat * 16 + f.p.toNat * 4 + 2 + f.cy.toNat) ∧
  (∀ v : Byte, unpackFlags v =
    { s := v.getLsbD 7, z := v.getLsbD 6, ac := v.getLsbD 4, p := v.getLsbD 2, cy := v.getLsbD 0 }) ∧
  (∀ v : Byte, packFlags (unpackFlags v) = (v &&& 0xD5) ||| 0x02)

/-- `PUSH PSW` and then `POP PSW`, with the stack in `ram`, restore A, every flag and SP, whatever is done to A and the
flags between (R144, R146). -/
def Obligations.PswSavedAndRestored : Prop :=
  ∀ (s : State) (a : Byte) (f : Flags), IsRam s (s.sp - 1) → IsRam s (s.sp - 2) →
    ∃ t u, exec .pushPSW s = .next t ∧ exec .popPSW { t with a := a, f := f } = .next u ∧
      u.a = s.a ∧ u.f = s.f ∧ u.sp = s.sp ∧ SameRegs s u

/-- `XCHG` swaps H with D and L with E; two in a row restore the start. `XTHL` exchanges L with the byte at SP and H
with the byte at SP + 1, reading SP, then SP + 1, then writing SP + 1, then SP. Nothing else changes (R170, R171). -/
def Obligations.ExchangeInstructions : Prop :=
  ∀ (s : State) (lo hi : Byte × State), lo = memRead s.sp s → hi = memRead (s.sp + 1) lo.2 →
    EncodedAs .xchg [0xEB] ∧ EncodedAs .xthl [0xE3] ∧
    exec .xchg s = .next { s with h := s.d, l := s.e, d := s.h, e := s.l } ∧
    repeatExec .xchg 2 s = .next s ∧
    ∃ t, exec .xthl s = .next t ∧ t.l = lo.1 ∧ t.h = hi.1 ∧ SameRegsBut [.h, .l] s t ∧
      t.f = s.f ∧ t.sp = s.sp ∧ t.pc = s.pc ∧ SameControl s t ∧
      StoresBytes [(s.sp + 1, s.h), (s.sp, s.l)] hi.2 t

/-! ## Groups 5 and 6: arithmetic and logic -/

/-- `CMC`, `STC` and `CMA`: the carry inverted, the carry set, every bit of A inverted; nothing else changes (R180 to
R182). -/
def Obligations.CarryAndComplement : Prop :=
  ∀ s : State,
    EncodedAs .cmc [0x3F] ∧ EncodedAs .stc [0x37] ∧ EncodedAs .cma [0x2F] ∧
    exec .cmc s = .next { s with f := { s.f with cy := !s.f.cy } } ∧
    exec .stc s = .next { s with f := { s.f with cy := true } } ∧
    (∃ t, exec .cma s = .next t ∧ (∀ k < 8, t.a.getLsbD k = !s.a.getLsbD k) ∧ ChangesOnlyRegs [.a] s t)

/-- `DAA` in the words of R183: step 1 adds 6 if the low digit exceeds 9 or AC is 1; step 2 adds 6 to the high digit if
after step 1 it exceeds 9 or CY is 1; AC is the carry of step 1 out of bit 3, CY says whether step 2 happened. -/
def Obligations.DaaAdjusts : Prop :=
  ∀ (s : State) (low high : Prop) [Decidable low] [Decidable high],
    (low ↔ s.f.ac = true ∨ 9 < s.a.toNat % 16) →
    (high ↔ s.f.cy = true ∨ 9 < (s.a.toNat + if low then 6 else 0) / 16) →
    EncodedAs .daa [0x27] ∧
    ∃ t, exec .daa s = .next t ∧
      t.a.toNat = (s.a.toNat + (if low then 6 else 0) + (if high then 0x60 else 0)) % 256 ∧
      (t.f.ac = true ↔ low ∧ 10 ≤ s.a.toNat % 16) ∧ (t.f.cy = true ↔ high) ∧ FlagsOf t.a t.f ∧ KeepsBut [.a] s s t

/-- `DAA` after an addition of two valid packed-BCD bytes gives the packed-BCD sum, CY the hundred (R183). -/
def Obligations.BcdAdditionCorrect : Prop :=
  ∀ (s : State) (op : AluOp) (o : Operand8) (cin : Bool),
    (op = .add ∧ cin = false) ∨ (op = .adc ∧ cin = s.f.cy) → ValidBcd s.a → ValidBcd (get8 o s).1 →
    ∃ t u, exec (.alu op o) s = .next t ∧ exec .daa t = .next u ∧ ValidBcd u.a ∧
      bcdValue u.a = (bcdValue s.a + bcdValue (get8 o s).1 + cin.toNat) % 100 ∧
      u.f.cy = decide (100 ≤ bcdValue s.a + bcdValue (get8 o s).1 + cin.toNat)

/-- `INR` and `DCR` on a register and on M: the operand plus or minus 1, Z, S, P and AC written, CY unchanged, nothing
else (R184, R185). -/
def Obligations.IncrementDecrement : Prop :=
  ∀ (r : Reg) (s : State),
    (∀ o, EncodedAs (.inr o) [0b00#2 ++ operandCode o ++ 0b100#3] ∧
      EncodedAs (.dcr o) [0b00#2 ++ operandCode o ++ 0b101#3]) ∧
    (∃ t, exec (.inr (.reg r)) s = .next t ∧ getReg r t = getReg r s + 1 ∧ FlagsOf (getReg r s + 1) t.f ∧
      t.f.ac = decide ((getReg r s).toNat % 16 = 15) ∧ t.f.cy = s.f.cy ∧ KeepsBut [r] s s t) ∧
    (∃ t, exec (.dcr (.reg r)) s = .next t ∧ getReg r t = getReg r s - 1 ∧ FlagsOf (getReg r s - 1) t.f ∧
      t.f.ac = decide ((getReg r s).toNat % 16 ≠ 0) ∧ t.f.cy = s.f.cy ∧ KeepsBut [r] s s t) ∧
    (∀ (m : Word) (v : Byte × State), m = joinBytes s.h s.l → v = memRead m s →
      (∃ t, exec (.inr .m) s = .next t ∧ StoresBytes [(m, v.1 + 1)] v.2 t ∧ FlagsOf (v.1 + 1) t.f ∧
        t.f.ac = decide (v.1.toNat % 16 = 15) ∧ t.f.cy = s.f.cy ∧
        SameRegs s t ∧ t.sp = s.sp ∧ t.pc = s.pc ∧ SameControl s t) ∧
      (∃ t, exec (.dcr .m) s = .next t ∧ StoresBytes [(m, v.1 - 1)] v.2 t ∧ FlagsOf (v.1 - 1) t.f ∧
        t.f.ac = decide (v.1.toNat % 16 ≠ 0) ∧ t.f.cy = s.f.cy ∧
        SameRegs s t ∧ t.sp = s.sp ∧ t.pc = s.pc ∧ SameControl s t))

/-- `INX` and `DCX`: the pair or SP plus or minus 1 modulo 2^16, no flag, nothing else (R186, R187). -/
def Obligations.PairIncrementDecrement : Prop :=
  ∀ s : State,
    (∀ p, EncodedAs (.inx p) [0b00#2 ++ pairCode p ++ 0b0011#4] ∧ EncodedAs (.dcx p) [0b00#2 ++ pairCode p ++ 0b1011#4]) ∧
    (∀ x ∈ [(RegPair.bc, Reg.b, Reg.c), (.de, .d, .e), (.hl, .h, .l)],
      (∃ t, exec (.inx (.rp x.1)) s = .next t ∧ ChangesOnlyRegs [x.2.1, x.2.2] s t ∧
        joinBytes (getReg x.2.1 t) (getReg x.2.2 t) = joinBytes (getReg x.2.1 s) (getReg x.2.2 s) + 1) ∧
      (∃ t, exec (.dcx (.rp x.1)) s = .next t ∧ ChangesOnlyRegs [x.2.1, x.2.2] s t ∧
        joinBytes (getReg x.2.1 t) (getReg x.2.2 t) = joinBytes (getReg x.2.1 s) (getReg x.2.2 s) - 1)) ∧
    exec (.inx .sp) s = .next { s with sp := s.sp + 1 } ∧
    exec (.dcx .sp) s = .next { s with sp := s.sp - 1 }

/-- `ADD`, `ADI`, `ADC` and `ACI`: A and the five flags by the sum, with the CY of before as carry in for ADC and ACI
(R200 to R203). -/
def Obligations.AdditionInstructions : Prop :=
  ∀ (s : State) (o : Operand8) (v : Byte),
    EncodedAs (.alu .add o) [0b10#2 ++ 0b000#3 ++ operandCode o] ∧ EncodedAs (.adi v) [0xC6, v] ∧
    EncodedAs (.alu .adc o) [0b10#2 ++ 0b001#3 ++ operandCode o] ∧ EncodedAs (.aci v) [0xCE, v] ∧
    (∃ t, exec (.alu .add o) s = .next t ∧ AddsToA (get8 o s).1 false s (get8 o s).2 t) ∧
    (∃ t, exec (.adi v) s = .next t ∧ AddsToA v false s s t) ∧
    (∃ t, exec (.alu .adc o) s = .next t ∧ AddsToA (get8 o s).1 s.f.cy s (get8 o s).2 t) ∧
    (∃ t, exec (.aci v) s = .next t ∧ AddsToA v s.f.cy s s t)

/-- `SUB`, `SUI`, `SBB` and `SBI`: A and the five flags by the difference, CY the borrow, with the CY of before as
borrow in for SBB and SBI (R204 to R207). -/
def Obligations.SubtractionInstructions : Prop :=
  ∀ (s : State) (o : Operand8) (v : Byte),
    EncodedAs (.alu .sub o) [0b10#2 ++ 0b010#3 ++ operandCode o] ∧ EncodedAs (.sui v) [0xD6, v] ∧
    EncodedAs (.alu .sbb o) [0b10#2 ++ 0b011#3 ++ operandCode o] ∧ EncodedAs (.sbi v) [0xDE, v] ∧
    (∃ t, exec (.alu .sub o) s = .next t ∧ SubtractsFromA (get8 o s).1 false s (get8 o s).2 t) ∧
    (∃ t, exec (.sui v) s = .next t ∧ SubtractsFromA v false s s t) ∧
    (∃ t, exec (.alu .sbb o) s = .next t ∧ SubtractsFromA (get8 o s).1 s.f.cy s (get8 o s).2 t) ∧
    (∃ t, exec (.sbi v) s = .next t ∧ SubtractsFromA v s.f.cy s s t)

/-- `ANA` and `ANI`, `ORA` and `ORI`, `XRA` and `XRI`: the bitwise AND, OR and exclusive OR, Z, S, P by it, CY 0; AC 0,
but for ANA and ANI under `or_bit3`, where it is bit 3 of the OR of the operands (R208 to R213). -/
def Obligations.LogicInstructions : Prop :=
  ∀ (s : State) (o : Operand8) (v : Byte),
    EncodedAs (.alu .ana o) [0b10#2 ++ 0b100#3 ++ operandCode o] ∧ EncodedAs (.ani v) [0xE6, v] ∧
    EncodedAs (.alu .ora o) [0b10#2 ++ 0b110#3 ++ operandCode o] ∧ EncodedAs (.ori v) [0xF6, v] ∧
    EncodedAs (.alu .xra o) [0b10#2 ++ 0b101#3 ++ operandCode o] ∧ EncodedAs (.xri v) [0xEE, v] ∧
    (s.params.anaAc = .zero →
      (∃ t, exec (.alu .ana o) s = .next t ∧ LogicLeaves (s.a &&& (get8 o s).1) false s (get8 o s).2 t) ∧
      (∃ t, exec (.ani v) s = .next t ∧ LogicLeaves (s.a &&& v) false s s t)) ∧
    (s.params.anaAc = .orBit3 →
      (∃ t, exec (.alu .ana o) s = .next t ∧
        LogicLeaves (s.a &&& (get8 o s).1) ((s.a ||| (get8 o s).1).getLsbD 3) s (get8 o s).2 t) ∧
      (∃ t, exec (.ani v) s = .next t ∧ LogicLeaves (s.a &&& v) ((s.a ||| v).getLsbD 3) s s t)) ∧
    (∃ t, exec (.alu .ora o) s = .next t ∧ LogicLeaves (s.a ||| (get8 o s).1) false s (get8 o s).2 t) ∧
    (∃ t, exec (.ori v) s = .next t ∧ LogicLeaves (s.a ||| v) false s s t) ∧
    (∃ t, exec (.alu .xra o) s = .next t ∧ LogicLeaves (s.a ^^^ (get8 o s).1) false s (get8 o s).2 t) ∧
    (∃ t, exec (.xri v) s = .next t ∧ LogicLeaves (s.a ^^^ v) false s s t)

/-- `CMP` and `CPI`: A unchanged; Z exactly when A equals the operand, CY exactly when A is less, unsigned; S, P and AC
by the difference (R214, R215). -/
def Obligations.CompareInstructions : Prop :=
  ∀ (s : State) (o : Operand8) (v : Byte),
    EncodedAs (.alu .cmp o) [0b10#2 ++ 0b111#3 ++ operandCode o] ∧ EncodedAs (.cpi v) [0xFE, v] ∧
    (∃ t, exec (.alu .cmp o) s = .next t ∧ SubtractionFlags s.a (get8 o s).1 false t.f ∧
      (t.f.z = true ↔ s.a = (get8 o s).1) ∧ (t.f.cy = true ↔ s.a.toNat < (get8 o s).1.toNat) ∧
      KeepsBut [] s (get8 o s).2 t) ∧
    (∃ t, exec (.cpi v) s = .next t ∧ SubtractionFlags s.a v false t.f ∧
      (t.f.z = true ↔ s.a = v) ∧ (t.f.cy = true ↔ s.a.toNat < v.toNat) ∧ KeepsBut [] s s t)

/-- `DAD rp`: HL plus the pair or SP modulo 2^16, CY the carry out of bit 15, no other flag, nothing else (R216). -/
def Obligations.DadAddsPairs : Prop :=
  ∀ s : State,
    (∀ p, EncodedAs (.dad p) [0b00#2 ++ pairCode p ++ 0b1001#4]) ∧
    ∀ x ∈ [(Pair.rp .bc, joinBytes s.b s.c), (.rp .de, joinBytes s.d s.e), (.rp .hl, joinBytes s.h s.l), (.sp, s.sp)],
      ∃ t, exec (.dad x.1) s = .next t ∧
        (joinBytes t.h t.l).toNat = ((joinBytes s.h s.l).toNat + x.2.toNat) % 65536 ∧
        t.f = { s.f with cy := decide (65535 < (joinBytes s.h s.l).toNat + x.2.toNat) } ∧ KeepsBut [.h, .l] s s t

/-! ## Group 7: shifts -/

/-- `RLC`, `RRC`, `RAL` and `RAR`: the path of every bit, CY the bit shifted out, no other flag, nothing else (R240 to
R243). -/
def Obligations.RotateInstructions : Prop :=
  ∀ s : State,
    EncodedAs .rlc [0x07] ∧ EncodedAs .rrc [0x0F] ∧ EncodedAs .ral [0x17] ∧ EncodedAs .rar [0x1F] ∧
    (∃ t, exec .rlc s = .next t ∧ t.a.toNat = (2 * s.a.toNat) % 256 + (s.a.getLsbD 7).toNat ∧
      t.f = { s.f with cy := s.a.getLsbD 7 } ∧ KeepsBut [.a] s s t) ∧
    (∃ t, exec .rrc s = .next t ∧ t.a.toNat = s.a.toNat / 2 + 128 * (s.a.getLsbD 0).toNat ∧
      t.f = { s.f with cy := s.a.getLsbD 0 } ∧ KeepsBut [.a] s s t) ∧
    (∃ t, exec .ral s = .next t ∧ t.a.toNat = (2 * s.a.toNat) % 256 + s.f.cy.toNat ∧
      t.f = { s.f with cy := s.a.getLsbD 7 } ∧ KeepsBut [.a] s s t) ∧
    (∃ t, exec .rar s = .next t ∧ t.a.toNat = s.a.toNat / 2 + 128 * s.f.cy.toNat ∧
      t.f = { s.f with cy := s.a.getLsbD 0 } ∧ KeepsBut [.a] s s t)

/-- Eight RLC or RRC restore A; nine RAL or RAR restore A and CY, so the whole state; RAR undoes RAL (R240 to R243). -/
def Obligations.RotateCyclesRestore : Prop :=
  ∀ s : State,
    (∃ t, repeatExec .rlc 8 s = .next t ∧ t.a = s.a) ∧ (∃ t, repeatExec .rrc 8 s = .next t ∧ t.a = s.a) ∧
    repeatExec .ral 9 s = .next s ∧ repeatExec .rar 9 s = .next s ∧
    (∃ t, exec .ral s = .next t ∧ exec .rar t = .next s)

/-! ## Groups 8 and 9: control and special -/

/-- `JMP`, `PCHL` and the eight conditional jumps: PC, and nothing else; a condition that is false leaves the state
(R252 to R261, R251). -/
def Obligations.JumpInstructions : Prop :=
  ∀ (cond : Cond) (adr : Word) (s : State),
    EncodedAs (.jmp adr) [0xC3, lowByte adr, highByte adr] ∧ EncodedAs .pchl [0xE9] ∧
    EncodedAs (.jumpCond cond adr) [0b11#2 ++ condCode cond ++ 0b010#3, lowByte adr, highByte adr] ∧
    exec (.jmp adr) s = .next { s with pc := adr } ∧
    exec .pchl s = .next { s with pc := joinBytes s.h s.l } ∧
    (CondTrue cond s.f → exec (.jumpCond cond adr) s = .next { s with pc := adr }) ∧
    (¬ CondTrue cond s.f → exec (.jumpCond cond adr) s = .next s)

/-- `CALL`, `RST n` and the eight conditional calls: the return address pushed and control at the target; a condition
that is false leaves the state (R262, R264, R265 to R272). -/
def Obligations.CallInstructions : Prop :=
  ∀ (cond : Cond) (adr : Word) (n : Fin 8) (s : State),
    EncodedAs (.call adr) [0xCD, lowByte adr, highByte adr] ∧
    EncodedAs (.rst n) [0b11#2 ++ BitVec.ofNat 3 n.val ++ 0b111#3] ∧
    EncodedAs (.callCond cond adr) [0b11#2 ++ condCode cond ++ 0b100#3, lowByte adr, highByte adr] ∧
    (∃ t, exec (.call adr) s = .next t ∧ Calls adr s t ∧ SameControl s t) ∧
    (∃ t, exec (.rst n) s = .next t ∧ Calls (BitVec.ofNat 16 (8 * n.val)) s t ∧ SameControl s t) ∧
    (CondTrue cond s.f → ∃ t, exec (.callCond cond adr) s = .next t ∧ Calls adr s t ∧ SameControl s t) ∧
    (¬ CondTrue cond s.f → exec (.callCond cond adr) s = .next s)

/-- `RET` and the eight conditional returns: PC popped; a condition that is false leaves the state and reads no stack
(R263, R273 to R280). -/
def Obligations.ReturnInstructions : Prop :=
  ∀ (cond : Cond) (s : State),
    EncodedAs .ret [0xC9] ∧ EncodedAs (.retCond cond) [0b11#2 ++ condCode cond ++ 0b000#3] ∧
    (∃ t, exec .ret s = .next t ∧ Returns s t) ∧
    (CondTrue cond s.f → ∃ t, exec (.retCond cond) s = .next t ∧ Returns s t) ∧
    (¬ CondTrue cond s.f → exec (.retCond cond) s = .next s)

/-- `NOP`, `HLT`, `EI` and `DI`, and what step (5) of R26 leaves after each: EIDelay = 0 but after EI (R300 to R303). -/
def Obligations.SpecialInstructions : Prop :=
  ∀ s : State,
    EncodedAs .nop [0x00] ∧ EncodedAs .hlt [0x76] ∧ EncodedAs .ei [0xFB] ∧ EncodedAs .di [0xF3] ∧
    exec .nop s = .next s ∧
    exec .hlt s = .next { s with halted := true } ∧
    exec .ei s = .next { s with inte := true, eiDelay := true } ∧
    exec .di s = .next { s with inte := false, eiDelay := false } ∧
    finishStep .nop (exec .nop s) = .next { s with eiDelay := false } ∧
    finishStep .hlt (exec .hlt s) = .next { s with halted := true, eiDelay := false } ∧
    finishStep .ei (exec .ei s) = .next { s with inte := true, eiDelay := true } ∧
    finishStep .di (exec .di s) = .next { s with inte := false, eiDelay := false }
end

