-- ==== Sys2Proof/Laws/State.lean ====
section
/-! SUPPORT. One lemma per field per named update of State, so that no proof unfolds an update; and the byte halves of
a word. -/

namespace Sys2Proof.Machine

/-! ## Bytes and words -/

/-- The value of two bytes joined (R7). -/
theorem toNat_joinBytes (hi lo : Byte) : (joinBytes hi lo).toNat = hi.toNat * 256 + lo.toNat := by
  have h : (joinBytes hi lo).toNat = hi.toNat <<< 8 ||| lo.toNat := BitVec.toNat_append hi lo
  rw [h, ← Nat.shiftLeft_add_eq_or_of_lt lo.isLt, Nat.shiftLeft_eq]

theorem toNat_highByte (w : Word) : (highByte w).toNat = w.toNat / 256 := by
  have := w.isLt
  simp only [highByte, BitVec.extractLsb'_toNat, Nat.shiftRight_eq_div_pow]
  omega

theorem toNat_lowByte (w : Word) : (lowByte w).toNat = w.toNat % 256 := by
  simp [lowByte, BitVec.extractLsb'_toNat]

@[simp] theorem highByte_joinBytes (hi lo : Byte) : highByte (joinBytes hi lo) = hi := by
  have := lo.isLt
  apply BitVec.eq_of_toNat_eq
  rw [toNat_highByte, toNat_joinBytes]
  omega

@[simp] theorem lowByte_joinBytes (hi lo : Byte) : lowByte (joinBytes hi lo) = lo := by
  have := lo.isLt
  apply BitVec.eq_of_toNat_eq
  rw [toNat_lowByte, toNat_joinBytes]
  omega

@[simp] theorem joinBytes_halves (w : Word) : joinBytes (highByte w) (lowByte w) = w := by
  apply BitVec.eq_of_toNat_eq
  rw [toNat_joinBytes, toNat_highByte, toNat_lowByte]
  omega

/-! ## `setReg`: one register -/

@[simp] theorem setReg_f (r : Reg) (v : Byte) (s : State) : (setReg r v s).f = s.f := by cases r <;> rfl
@[simp] theorem setReg_sp (r : Reg) (v : Byte) (s : State) : (setReg r v s).sp = s.sp := by cases r <;> rfl
@[simp] theorem setReg_pc (r : Reg) (v : Byte) (s : State) : (setReg r v s).pc = s.pc := by cases r <;> rfl
@[simp] theorem setReg_inte (r : Reg) (v : Byte) (s : State) : (setReg r v s).inte = s.inte := by cases r <;> rfl
@[simp] theorem setReg_eiDelay (r : Reg) (v : Byte) (s : State) : (setReg r v s).eiDelay = s.eiDelay := by cases r <;> rfl
@[simp] theorem setReg_halted (r : Reg) (v : Byte) (s : State) : (setReg r v s).halted = s.halted := by cases r <;> rfl
@[simp] theorem setReg_mem (r : Reg) (v : Byte) (s : State) : (setReg r v s).mem = s.mem := by cases r <;> rfl
@[simp] theorem setReg_history (r : Reg) (v : Byte) (s : State) : (setReg r v s).history = s.history := by cases r <;> rfl
@[simp] theorem setReg_inputs (r : Reg) (v : Byte) (s : State) : (setReg r v s).inputs = s.inputs := by cases r <;> rfl
@[simp] theorem setReg_answers (r : Reg) (v : Byte) (s : State) : (setReg r v s).answers = s.answers := by cases r <;> rfl
@[simp] theorem setReg_draws (r : Reg) (v : Byte) (s : State) : (setReg r v s).draws = s.draws := by cases r <;> rfl
@[simp] theorem setReg_written (r : Reg) (v : Byte) (s : State) : (setReg r v s).written = s.written := by cases r <;> rfl
@[simp] theorem setReg_params (r : Reg) (v : Byte) (s : State) : (setReg r v s).params = s.params := by cases r <;> rfl

/-- A register written holds the byte. -/
@[simp] theorem getReg_setReg_same (r : Reg) (v : Byte) (s : State) : getReg r (setReg r v s) = v := by
  cases r <;> rfl

/-- Writing one register leaves the others. -/
theorem getReg_setReg_ne (r q : Reg) (v : Byte) (s : State) (h : q ≠ r) : getReg q (setReg r v s) = getReg q s := by
  cases r <;> cases q <;> first | rfl | exact absurd rfl h

/-- The two cases of reading a register after a write. -/
theorem getReg_setReg (r q : Reg) (v : Byte) (s : State) :
    getReg q (setReg r v s) = if q = r then v else getReg q s := by
  cases r <;> cases q <;> rfl

/-! ## `setRegPair` and `setPair` -/

@[simp] theorem setRegPair_f (p : RegPair) (v : Word) (s : State) : (setRegPair p v s).f = s.f := by cases p <;> rfl
@[simp] theorem setRegPair_sp (p : RegPair) (v : Word) (s : State) : (setRegPair p v s).sp = s.sp := by cases p <;> rfl
@[simp] theorem setRegPair_pc (p : RegPair) (v : Word) (s : State) : (setRegPair p v s).pc = s.pc := by cases p <;> rfl
@[simp] theorem setRegPair_inte (p : RegPair) (v : Word) (s : State) : (setRegPair p v s).inte = s.inte := by cases p <;> rfl
@[simp] theorem setRegPair_eiDelay (p : RegPair) (v : Word) (s : State) : (setRegPair p v s).eiDelay = s.eiDelay := by cases p <;> rfl
@[simp] theorem setRegPair_halted (p : RegPair) (v : Word) (s : State) : (setRegPair p v s).halted = s.halted := by cases p <;> rfl
@[simp] theorem setRegPair_mem (p : RegPair) (v : Word) (s : State) : (setRegPair p v s).mem = s.mem := by cases p <;> rfl
@[simp] theorem setRegPair_history (p : RegPair) (v : Word) (s : State) : (setRegPair p v s).history = s.history := by cases p <;> rfl
@[simp] theorem setRegPair_inputs (p : RegPair) (v : Word) (s : State) : (setRegPair p v s).inputs = s.inputs := by cases p <;> rfl
@[simp] theorem setRegPair_answers (p : RegPair) (v : Word) (s : State) : (setRegPair p v s).answers = s.answers := by cases p <;> rfl
@[simp] theorem setRegPair_draws (p : RegPair) (v : Word) (s : State) : (setRegPair p v s).draws = s.draws := by cases p <;> rfl
@[simp] theorem setRegPair_written (p : RegPair) (v : Word) (s : State) : (setRegPair p v s).written = s.written := by cases p <;> rfl
@[simp] theorem setRegPair_params (p : RegPair) (v : Word) (s : State) : (setRegPair p v s).params = s.params := by cases p <;> rfl

@[simp] theorem setPair_f (p : Pair) (v : Word) (s : State) : (setPair p v s).f = s.f := by rcases p with (_ | _ | _) | _ <;> rfl
@[simp] theorem setPair_pc (p : Pair) (v : Word) (s : State) : (setPair p v s).pc = s.pc := by rcases p with (_ | _ | _) | _ <;> rfl
@[simp] theorem setPair_inte (p : Pair) (v : Word) (s : State) : (setPair p v s).inte = s.inte := by rcases p with (_ | _ | _) | _ <;> rfl
@[simp] theorem setPair_eiDelay (p : Pair) (v : Word) (s : State) : (setPair p v s).eiDelay = s.eiDelay := by rcases p with (_ | _ | _) | _ <;> rfl
@[simp] theorem setPair_halted (p : Pair) (v : Word) (s : State) : (setPair p v s).halted = s.halted := by rcases p with (_ | _ | _) | _ <;> rfl
@[simp] theorem setPair_mem (p : Pair) (v : Word) (s : State) : (setPair p v s).mem = s.mem := by rcases p with (_ | _ | _) | _ <;> rfl
@[simp] theorem setPair_history (p : Pair) (v : Word) (s : State) : (setPair p v s).history = s.history := by rcases p with (_ | _ | _) | _ <;> rfl
@[simp] theorem setPair_inputs (p : Pair) (v : Word) (s : State) : (setPair p v s).inputs = s.inputs := by rcases p with (_ | _ | _) | _ <;> rfl
@[simp] theorem setPair_answers (p : Pair) (v : Word) (s : State) : (setPair p v s).answers = s.answers := by rcases p with (_ | _ | _) | _ <;> rfl
@[simp] theorem setPair_draws (p : Pair) (v : Word) (s : State) : (setPair p v s).draws = s.draws := by rcases p with (_ | _ | _) | _ <;> rfl
@[simp] theorem setPair_written (p : Pair) (v : Word) (s : State) : (setPair p v s).written = s.written := by rcases p with (_ | _ | _) | _ <;> rfl
@[simp] theorem setPair_params (p : Pair) (v : Word) (s : State) : (setPair p v s).params = s.params := by rcases p with (_ | _ | _) | _ <;> rfl

/-- A pair written holds the word. -/
@[simp] theorem getRegPair_setRegPair (p : RegPair) (v : Word) (s : State) : getRegPair p (setRegPair p v s) = v := by
  cases p <;> simp [getRegPair, setRegPair, regHL]

/-! ## `withEvent` -/

@[simp] theorem withEvent_a (x : IoEvent) (s : State) : (withEvent x s).a = s.a := rfl
@[simp] theorem withEvent_b (x : IoEvent) (s : State) : (withEvent x s).b = s.b := rfl
@[simp] theorem withEvent_c (x : IoEvent) (s : State) : (withEvent x s).c = s.c := rfl
@[simp] theorem withEvent_d (x : IoEvent) (s : State) : (withEvent x s).d = s.d := rfl
@[simp] theorem withEvent_e (x : IoEvent) (s : State) : (withEvent x s).e = s.e := rfl
@[simp] theorem withEvent_h (x : IoEvent) (s : State) : (withEvent x s).h = s.h := rfl
@[simp] theorem withEvent_l (x : IoEvent) (s : State) : (withEvent x s).l = s.l := rfl
@[simp] theorem withEvent_f (x : IoEvent) (s : State) : (withEvent x s).f = s.f := rfl
@[simp] theorem withEvent_sp (x : IoEvent) (s : State) : (withEvent x s).sp = s.sp := rfl
@[simp] theorem withEvent_pc (x : IoEvent) (s : State) : (withEvent x s).pc = s.pc := rfl
@[simp] theorem withEvent_inte (x : IoEvent) (s : State) : (withEvent x s).inte = s.inte := rfl
@[simp] theorem withEvent_eiDelay (x : IoEvent) (s : State) : (withEvent x s).eiDelay = s.eiDelay := rfl
@[simp] theorem withEvent_halted (x : IoEvent) (s : State) : (withEvent x s).halted = s.halted := rfl
@[simp] theorem withEvent_mem (x : IoEvent) (s : State) : (withEvent x s).mem = s.mem := rfl
@[simp] theorem withEvent_inputs (x : IoEvent) (s : State) : (withEvent x s).inputs = s.inputs := rfl
@[simp] theorem withEvent_answers (x : IoEvent) (s : State) : (withEvent x s).answers = s.answers := rfl
@[simp] theorem withEvent_draws (x : IoEvent) (s : State) : (withEvent x s).draws = s.draws := rfl
@[simp] theorem withEvent_written (x : IoEvent) (s : State) : (withEvent x s).written = s.written := rfl
@[simp] theorem withEvent_params (x : IoEvent) (s : State) : (withEvent x s).params = s.params := rfl

/-! ## `jumpTo` -/

@[simp] theorem jumpTo_a (w : Word) (s : State) : (jumpTo w s).a = s.a := rfl
@[simp] theorem jumpTo_b (w : Word) (s : State) : (jumpTo w s).b = s.b := rfl
@[simp] theorem jumpTo_c (w : Word) (s : State) : (jumpTo w s).c = s.c := rfl
@[simp] theorem jumpTo_d (w : Word) (s : State) : (jumpTo w s).d = s.d := rfl
@[simp] theorem jumpTo_e (w : Word) (s : State) : (jumpTo w s).e = s.e := rfl
@[simp] theorem jumpTo_h (w : Word) (s : State) : (jumpTo w s).h = s.h := rfl
@[simp] theorem jumpTo_l (w : Word) (s : State) : (jumpTo w s).l = s.l := rfl
@[simp] theorem jumpTo_f (w : Word) (s : State) : (jumpTo w s).f = s.f := rfl
@[simp] theorem jumpTo_sp (w : Word) (s : State) : (jumpTo w s).sp = s.sp := rfl
@[simp] theorem jumpTo_inte (w : Word) (s : State) : (jumpTo w s).inte = s.inte := rfl
@[simp] theorem jumpTo_eiDelay (w : Word) (s : State) : (jumpTo w s).eiDelay = s.eiDelay := rfl
@[simp] theorem jumpTo_halted (w : Word) (s : State) : (jumpTo w s).halted = s.halted := rfl
@[simp] theorem jumpTo_mem (w : Word) (s : State) : (jumpTo w s).mem = s.mem := rfl
@[simp] theorem jumpTo_history (w : Word) (s : State) : (jumpTo w s).history = s.history := rfl
@[simp] theorem jumpTo_inputs (w : Word) (s : State) : (jumpTo w s).inputs = s.inputs := rfl
@[simp] theorem jumpTo_answers (w : Word) (s : State) : (jumpTo w s).answers = s.answers := rfl
@[simp] theorem jumpTo_draws (w : Word) (s : State) : (jumpTo w s).draws = s.draws := rfl
@[simp] theorem jumpTo_written (w : Word) (s : State) : (jumpTo w s).written = s.written := rfl
@[simp] theorem jumpTo_params (w : Word) (s : State) : (jumpTo w s).params = s.params := rfl

/-! ## `applyReset` -/

@[simp] theorem applyReset_a (s : State) : (applyReset s).a = s.a := rfl
@[simp] theorem applyReset_b (s : State) : (applyReset s).b = s.b := rfl
@[simp] theorem applyReset_c (s : State) : (applyReset s).c = s.c := rfl
@[simp] theorem applyReset_d (s : State) : (applyReset s).d = s.d := rfl
@[simp] theorem applyReset_e (s : State) : (applyReset s).e = s.e := rfl
@[simp] theorem applyReset_h (s : State) : (applyReset s).h = s.h := rfl
@[simp] theorem applyReset_l (s : State) : (applyReset s).l = s.l := rfl
@[simp] theorem applyReset_f (s : State) : (applyReset s).f = s.f := rfl
@[simp] theorem applyReset_sp (s : State) : (applyReset s).sp = s.sp := rfl
@[simp] theorem applyReset_mem (s : State) : (applyReset s).mem = s.mem := rfl
@[simp] theorem applyReset_history (s : State) : (applyReset s).history = s.history := rfl
@[simp] theorem applyReset_inputs (s : State) : (applyReset s).inputs = s.inputs := rfl
@[simp] theorem applyReset_answers (s : State) : (applyReset s).answers = s.answers := rfl
@[simp] theorem applyReset_draws (s : State) : (applyReset s).draws = s.draws := rfl
@[simp] theorem applyReset_written (s : State) : (applyReset s).written = s.written := rfl
@[simp] theorem applyReset_params (s : State) : (applyReset s).params = s.params := rfl

/-! ## `afterInput` -/

@[simp] theorem afterInput_a (s : State) : (afterInput s).a = s.a := rfl
@[simp] theorem afterInput_b (s : State) : (afterInput s).b = s.b := rfl
@[simp] theorem afterInput_c (s : State) : (afterInput s).c = s.c := rfl
@[simp] theorem afterInput_d (s : State) : (afterInput s).d = s.d := rfl
@[simp] theorem afterInput_e (s : State) : (afterInput s).e = s.e := rfl
@[simp] theorem afterInput_h (s : State) : (afterInput s).h = s.h := rfl
@[simp] theorem afterInput_l (s : State) : (afterInput s).l = s.l := rfl
@[simp] theorem afterInput_f (s : State) : (afterInput s).f = s.f := rfl
@[simp] theorem afterInput_sp (s : State) : (afterInput s).sp = s.sp := rfl
@[simp] theorem afterInput_pc (s : State) : (afterInput s).pc = s.pc := rfl
@[simp] theorem afterInput_inte (s : State) : (afterInput s).inte = s.inte := rfl
@[simp] theorem afterInput_eiDelay (s : State) : (afterInput s).eiDelay = s.eiDelay := rfl
@[simp] theorem afterInput_halted (s : State) : (afterInput s).halted = s.halted := rfl
@[simp] theorem afterInput_mem (s : State) : (afterInput s).mem = s.mem := rfl
@[simp] theorem afterInput_history (s : State) : (afterInput s).history = s.history := rfl
@[simp] theorem afterInput_answers (s : State) : (afterInput s).answers = s.answers := rfl
@[simp] theorem afterInput_draws (s : State) : (afterInput s).draws = s.draws := rfl
@[simp] theorem afterInput_written (s : State) : (afterInput s).written = s.written := rfl
@[simp] theorem afterInput_params (s : State) : (afterInput s).params = s.params := rfl

/-! ## `withShifted` -/

@[simp] theorem withShifted_b (v : Byte) (y : Bool) (s : State) : (withShifted v y s).b = s.b := rfl
@[simp] theorem withShifted_c (v : Byte) (y : Bool) (s : State) : (withShifted v y s).c = s.c := rfl
@[simp] theorem withShifted_d (v : Byte) (y : Bool) (s : State) : (withShifted v y s).d = s.d := rfl
@[simp] theorem withShifted_e (v : Byte) (y : Bool) (s : State) : (withShifted v y s).e = s.e := rfl
@[simp] theorem withShifted_h (v : Byte) (y : Bool) (s : State) : (withShifted v y s).h = s.h := rfl
@[simp] theorem withShifted_l (v : Byte) (y : Bool) (s : State) : (withShifted v y s).l = s.l := rfl
@[simp] theorem withShifted_sp (v : Byte) (y : Bool) (s : State) : (withShifted v y s).sp = s.sp := rfl
@[simp] theorem withShifted_pc (v : Byte) (y : Bool) (s : State) : (withShifted v y s).pc = s.pc := rfl
@[simp] theorem withShifted_inte (v : Byte) (y : Bool) (s : State) : (withShifted v y s).inte = s.inte := rfl
@[simp] theorem withShifted_eiDelay (v : Byte) (y : Bool) (s : State) : (withShifted v y s).eiDelay = s.eiDelay := rfl
@[simp] theorem withShifted_halted (v : Byte) (y : Bool) (s : State) : (withShifted v y s).halted = s.halted := rfl
@[simp] theorem withShifted_mem (v : Byte) (y : Bool) (s : State) : (withShifted v y s).mem = s.mem := rfl
@[simp] theorem withShifted_history (v : Byte) (y : Bool) (s : State) : (withShifted v y s).history = s.history := rfl
@[simp] theorem withShifted_inputs (v : Byte) (y : Bool) (s : State) : (withShifted v y s).inputs = s.inputs := rfl
@[simp] theorem withShifted_answers (v : Byte) (y : Bool) (s : State) : (withShifted v y s).answers = s.answers := rfl
@[simp] theorem withShifted_draws (v : Byte) (y : Bool) (s : State) : (withShifted v y s).draws = s.draws := rfl
@[simp] theorem withShifted_written (v : Byte) (y : Bool) (s : State) : (withShifted v y s).written = s.written := rfl
@[simp] theorem withShifted_params (v : Byte) (y : Bool) (s : State) : (withShifted v y s).params = s.params := rfl

/-! ## `beginEntry` -/

@[simp] theorem beginEntry_a (s : State) : (beginEntry s).a = s.a := rfl
@[simp] theorem beginEntry_b (s : State) : (beginEntry s).b = s.b := rfl
@[simp] theorem beginEntry_c (s : State) : (beginEntry s).c = s.c := rfl
@[simp] theorem beginEntry_d (s : State) : (beginEntry s).d = s.d := rfl
@[simp] theorem beginEntry_e (s : State) : (beginEntry s).e = s.e := rfl
@[simp] theorem beginEntry_h (s : State) : (beginEntry s).h = s.h := rfl
@[simp] theorem beginEntry_l (s : State) : (beginEntry s).l = s.l := rfl
@[simp] theorem beginEntry_f (s : State) : (beginEntry s).f = s.f := rfl
@[simp] theorem beginEntry_sp (s : State) : (beginEntry s).sp = s.sp := rfl
@[simp] theorem beginEntry_pc (s : State) : (beginEntry s).pc = s.pc := rfl
@[simp] theorem beginEntry_eiDelay (s : State) : (beginEntry s).eiDelay = s.eiDelay := rfl
@[simp] theorem beginEntry_mem (s : State) : (beginEntry s).mem = s.mem := rfl
@[simp] theorem beginEntry_history (s : State) : (beginEntry s).history = s.history := rfl
@[simp] theorem beginEntry_inputs (s : State) : (beginEntry s).inputs = s.inputs := rfl
@[simp] theorem beginEntry_answers (s : State) : (beginEntry s).answers = s.answers := rfl
@[simp] theorem beginEntry_draws (s : State) : (beginEntry s).draws = s.draws := rfl
@[simp] theorem beginEntry_written (s : State) : (beginEntry s).written = s.written := rfl
@[simp] theorem beginEntry_params (s : State) : (beginEntry s).params = s.params := rfl
@[simp] theorem beginEntry_inte (s : State) : (beginEntry s).inte = false := rfl
@[simp] theorem beginEntry_halted (s : State) : (beginEntry s).halted = false := rfl

/-! ## `markItems` -/

@[simp] theorem markItems_a (ws : List Item) (s : State) : (markItems ws s).a = s.a := rfl
@[simp] theorem markItems_b (ws : List Item) (s : State) : (markItems ws s).b = s.b := rfl
@[simp] theorem markItems_c (ws : List Item) (s : State) : (markItems ws s).c = s.c := rfl
@[simp] theorem markItems_d (ws : List Item) (s : State) : (markItems ws s).d = s.d := rfl
@[simp] theorem markItems_e (ws : List Item) (s : State) : (markItems ws s).e = s.e := rfl
@[simp] theorem markItems_h (ws : List Item) (s : State) : (markItems ws s).h = s.h := rfl
@[simp] theorem markItems_l (ws : List Item) (s : State) : (markItems ws s).l = s.l := rfl
@[simp] theorem markItems_f (ws : List Item) (s : State) : (markItems ws s).f = s.f := rfl
@[simp] theorem markItems_sp (ws : List Item) (s : State) : (markItems ws s).sp = s.sp := rfl
@[simp] theorem markItems_pc (ws : List Item) (s : State) : (markItems ws s).pc = s.pc := rfl
@[simp] theorem markItems_inte (ws : List Item) (s : State) : (markItems ws s).inte = s.inte := rfl
@[simp] theorem markItems_eiDelay (ws : List Item) (s : State) : (markItems ws s).eiDelay = s.eiDelay := rfl
@[simp] theorem markItems_halted (ws : List Item) (s : State) : (markItems ws s).halted = s.halted := rfl
@[simp] theorem markItems_mem (ws : List Item) (s : State) : (markItems ws s).mem = s.mem := rfl
@[simp] theorem markItems_history (ws : List Item) (s : State) : (markItems ws s).history = s.history := rfl
@[simp] theorem markItems_inputs (ws : List Item) (s : State) : (markItems ws s).inputs = s.inputs := rfl
@[simp] theorem markItems_answers (ws : List Item) (s : State) : (markItems ws s).answers = s.answers := rfl
@[simp] theorem markItems_draws (ws : List Item) (s : State) : (markItems ws s).draws = s.draws := rfl
@[simp] theorem markItems_params (ws : List Item) (s : State) : (markItems ws s).params = s.params := rfl

@[simp] theorem withEvent_history (x : IoEvent) (s : State) : (withEvent x s).history = s.history ++ [x] := rfl
@[simp] theorem jumpTo_pc (w : Word) (s : State) : (jumpTo w s).pc = w := rfl
@[simp] theorem afterInput_inputs (s : State) : (afterInput s).inputs = s.inputs.tail := rfl
@[simp] theorem applyReset_pc (s : State) : (applyReset s).pc = 0x0000 := rfl
@[simp] theorem applyReset_inte (s : State) : (applyReset s).inte = false := rfl
@[simp] theorem applyReset_eiDelay (s : State) : (applyReset s).eiDelay = false := rfl
@[simp] theorem applyReset_halted (s : State) : (applyReset s).halted = false := rfl
@[simp] theorem withShifted_a (v : Byte) (y : Bool) (s : State) : (withShifted v y s).a = v := rfl
@[simp] theorem withShifted_f (v : Byte) (y : Bool) (s : State) : (withShifted v y s).f = { s.f with cy := y } := rfl

end Sys2Proof.Machine
end

