-- ==== Sys2Proof/Laws/Decode.lean ====
section
/-! SUPPORT. What the opcode map and the encoder have to do with each other, said once for every first byte. -/

namespace Sys2Proof

/-- What the map says of a first byte, the encoder gives back: the shape's instruction encodes to that byte and its
operand bytes, and an unused code of length 3 is not well formed. -/
def ShapeAgrees (op : Byte) : Shape → Prop
  | .one i => encode i = [op]
  | .two f => ∀ v, encode (f v) = [op, v]
  | .three f => ∀ w, encode (f w) = op :: wordBytes w
  | .unusedThree f => ∀ w, encode (f w) = op :: wordBytes w ∧ (f w).wellFormed = false

theorem shapeAgrees_row0 (k : Fin 16) :
    ShapeAgrees (BitVec.ofNat 8 (0 + k.val)) (shapeOf (BitVec.ofNat 8 (0 + k.val))) := by
  fin_cases k <;> first | rfl | exact fun _ => rfl

theorem shapeAgrees_row1 (k : Fin 16) :
    ShapeAgrees (BitVec.ofNat 8 (16 + k.val)) (shapeOf (BitVec.ofNat 8 (16 + k.val))) := by
  fin_cases k <;> first | rfl | exact fun _ => rfl

theorem shapeAgrees_row2 (k : Fin 16) :
    ShapeAgrees (BitVec.ofNat 8 (32 + k.val)) (shapeOf (BitVec.ofNat 8 (32 + k.val))) := by
  fin_cases k <;> first | rfl | exact fun _ => rfl

theorem shapeAgrees_row3 (k : Fin 16) :
    ShapeAgrees (BitVec.ofNat 8 (48 + k.val)) (shapeOf (BitVec.ofNat 8 (48 + k.val))) := by
  fin_cases k <;> first | rfl | exact fun _ => rfl

theorem shapeAgrees_row4 (k : Fin 16) :
    ShapeAgrees (BitVec.ofNat 8 (64 + k.val)) (shapeOf (BitVec.ofNat 8 (64 + k.val))) := by
  fin_cases k <;> rfl

theorem shapeAgrees_row5 (k : Fin 16) :
    ShapeAgrees (BitVec.ofNat 8 (80 + k.val)) (shapeOf (BitVec.ofNat 8 (80 + k.val))) := by
  fin_cases k <;> rfl

theorem shapeAgrees_row6 (k : Fin 16) :
    ShapeAgrees (BitVec.ofNat 8 (96 + k.val)) (shapeOf (BitVec.ofNat 8 (96 + k.val))) := by
  fin_cases k <;> rfl

theorem shapeAgrees_row7 (k : Fin 16) :
    ShapeAgrees (BitVec.ofNat 8 (112 + k.val)) (shapeOf (BitVec.ofNat 8 (112 + k.val))) := by
  fin_cases k <;> rfl

theorem shapeAgrees_row8 (k : Fin 16) :
    ShapeAgrees (BitVec.ofNat 8 (128 + k.val)) (shapeOf (BitVec.ofNat 8 (128 + k.val))) := by
  fin_cases k <;> rfl

theorem shapeAgrees_row9 (k : Fin 16) :
    ShapeAgrees (BitVec.ofNat 8 (144 + k.val)) (shapeOf (BitVec.ofNat 8 (144 + k.val))) := by
  fin_cases k <;> rfl

theorem shapeAgrees_rowA (k : Fin 16) :
    ShapeAgrees (BitVec.ofNat 8 (160 + k.val)) (shapeOf (BitVec.ofNat 8 (160 + k.val))) := by
  fin_cases k <;> rfl

theorem shapeAgrees_rowB (k : Fin 16) :
    ShapeAgrees (BitVec.ofNat 8 (176 + k.val)) (shapeOf (BitVec.ofNat 8 (176 + k.val))) := by
  fin_cases k <;> rfl

theorem shapeAgrees_rowC (k : Fin 16) :
    ShapeAgrees (BitVec.ofNat 8 (192 + k.val)) (shapeOf (BitVec.ofNat 8 (192 + k.val))) := by
  fin_cases k <;> first | rfl | exact fun _ => rfl | exact fun _ => ⟨rfl, rfl⟩

theorem shapeAgrees_rowD (k : Fin 16) :
    ShapeAgrees (BitVec.ofNat 8 (208 + k.val)) (shapeOf (BitVec.ofNat 8 (208 + k.val))) := by
  fin_cases k <;> first | rfl | exact fun _ => rfl | exact fun _ => ⟨rfl, rfl⟩

theorem shapeAgrees_rowE (k : Fin 16) :
    ShapeAgrees (BitVec.ofNat 8 (224 + k.val)) (shapeOf (BitVec.ofNat 8 (224 + k.val))) := by
  fin_cases k <;> first | rfl | exact fun _ => rfl | exact fun _ => ⟨rfl, rfl⟩

theorem shapeAgrees_rowF (k : Fin 16) :
    ShapeAgrees (BitVec.ofNat 8 (240 + k.val)) (shapeOf (BitVec.ofNat 8 (240 + k.val))) := by
  fin_cases k <;> first | rfl | exact fun _ => rfl | exact fun _ => ⟨rfl, rfl⟩

/-- The map and the encoder agree for every first byte. -/
theorem shapeAgrees (op : Byte) : ShapeAgrees op (shapeOf op) := by
  have hk : op.toNat % 16 < 16 := Nat.mod_lt _ (by decide)
  have ho : op.toNat < 256 := op.isLt
  have hq : op.toNat / 16 = 0 ∨ op.toNat / 16 = 1 ∨ op.toNat / 16 = 2 ∨ op.toNat / 16 = 3 ∨
      op.toNat / 16 = 4 ∨ op.toNat / 16 = 5 ∨ op.toNat / 16 = 6 ∨ op.toNat / 16 = 7 ∨
      op.toNat / 16 = 8 ∨ op.toNat / 16 = 9 ∨ op.toNat / 16 = 10 ∨ op.toNat / 16 = 11 ∨
      op.toNat / 16 = 12 ∨ op.toNat / 16 = 13 ∨ op.toNat / 16 = 14 ∨ op.toNat / 16 = 15 := by omega
  have step (base : Nat) (h : base + op.toNat % 16 = op.toNat)
      (row : ShapeAgrees (BitVec.ofNat 8 (base + op.toNat % 16)) (shapeOf (BitVec.ofNat 8 (base + op.toNat % 16)))) :
      ShapeAgrees op (shapeOf op) := by
    rw [h, BitVec.ofNat_toNat, BitVec.setWidth_eq] at row
    exact row
  rcases hq with h | h | h | h | h | h | h | h | h | h | h | h | h | h | h | h
  · exact step 0 (by omega) (shapeAgrees_row0 ⟨op.toNat % 16, hk⟩)
  · exact step 16 (by omega) (shapeAgrees_row1 ⟨op.toNat % 16, hk⟩)
  · exact step 32 (by omega) (shapeAgrees_row2 ⟨op.toNat % 16, hk⟩)
  · exact step 48 (by omega) (shapeAgrees_row3 ⟨op.toNat % 16, hk⟩)
  · exact step 64 (by omega) (shapeAgrees_row4 ⟨op.toNat % 16, hk⟩)
  · exact step 80 (by omega) (shapeAgrees_row5 ⟨op.toNat % 16, hk⟩)
  · exact step 96 (by omega) (shapeAgrees_row6 ⟨op.toNat % 16, hk⟩)
  · exact step 112 (by omega) (shapeAgrees_row7 ⟨op.toNat % 16, hk⟩)
  · exact step 128 (by omega) (shapeAgrees_row8 ⟨op.toNat % 16, hk⟩)
  · exact step 144 (by omega) (shapeAgrees_row9 ⟨op.toNat % 16, hk⟩)
  · exact step 160 (by omega) (shapeAgrees_rowA ⟨op.toNat % 16, hk⟩)
  · exact step 176 (by omega) (shapeAgrees_rowB ⟨op.toNat % 16, hk⟩)
  · exact step 192 (by omega) (shapeAgrees_rowC ⟨op.toNat % 16, hk⟩)
  · exact step 208 (by omega) (shapeAgrees_rowD ⟨op.toNat % 16, hk⟩)
  · exact step 224 (by omega) (shapeAgrees_rowE ⟨op.toNat % 16, hk⟩)
  · exact step 240 (by omega) (shapeAgrees_rowF ⟨op.toNat % 16, hk⟩)

end Sys2Proof
end

