-- ==== Sys2Proof/Laws/Memory.lean ====
section
/-! SUPPORT. The cells of memory: read after write, and the canonical form, which every operation on cells keeps. -/

namespace Sys2Proof.Machine

/-- An address that no entry lists reads as the unwritten byte. -/
theorem readCell_of_unlisted (m : Memory) (n : Nat) (h : ∀ x ∈ m, x.1 ≠ n) :
    readCell m n = Config.unwrittenByte := by
  induction m with
  | nil => rfl
  | cons x m ih =>
    have hx : x.1 ≠ n := h x (by simp)
    simp only [readCell, if_neg hx]
    exact ih (fun y hy => h y (by simp [hy]))

/-- Taking an address out leaves the others and makes it read as unwritten. -/
theorem readCell_filter (m : Memory) (n k : Nat) :
    readCell (m.filter (fun x => x.1 != n)) k = if k = n then Config.unwrittenByte else readCell m k := by
  induction m with
  | nil => simp [readCell]
  | cons x m ih =>
    obtain ⟨a, w⟩ := x
    by_cases ha : a = n
    · have e : (((a, w) :: m).filter (fun x => x.1 != n)) = m.filter (fun x => x.1 != n) := by simp [ha]
      rw [e, ih]
      by_cases hk : k = n
      · simp [hk]
      · have : a ≠ k := fun h => hk (h ▸ ha)
        simp [hk, readCell, this]
    · have e : (((a, w) :: m).filter (fun x => x.1 != n)) = (a, w) :: m.filter (fun x => x.1 != n) := by simp [ha]
      rw [e]
      by_cases hak : a = k
      · have hkn : k ≠ n := fun h => ha (hak.trans h)
        simp [readCell, hak, hkn]
      · simp only [readCell, if_neg hak]
        exact ih

/-- Putting an entry in changes what its address reads as and nothing else. -/
theorem readCell_insertCell (m : Memory) (n k : Nat) (v : Byte) (h : ∀ x ∈ m, x.1 ≠ n) :
    readCell (insertCell n v m) k = if k = n then v else readCell m k := by
  induction m with
  | nil => by_cases hk : n = k <;> simp [insertCell, readCell, hk, eq_comm]
  | cons x m ih =>
    obtain ⟨a, w⟩ := x
    have ha : a ≠ n := h (a, w) (by simp)
    simp only [insertCell]
    split
    · by_cases hk : n = k
      · simp [readCell, hk]
      · simp [readCell, hk, eq_comm]
    · by_cases hak : a = k
      · have : k ≠ n := fun e => ha (hak.trans e)
        simp [readCell, hak, this]
      · simp only [readCell, if_neg hak]
        exact ih (fun y hy => h y (by simp [hy]))

theorem filter_unlists (m : Memory) (n : Nat) : ∀ x ∈ m.filter (fun x => x.1 != n), x.1 ≠ n := by
  intro x hx
  simpa using (List.mem_filter.mp hx).2

/-- Read after write: the written address holds the byte, every other address is as before. -/
theorem readCell_writeCell (m : Memory) (n k : Nat) (v : Byte) :
    readCell (writeCell m n v) k = if k = n then v else readCell m k := by
  unfold writeCell
  by_cases hv : v = Config.unwrittenByte
  · simp only [if_pos hv, readCell_filter]
    split <;> simp_all
  · simp only [if_neg hv]
    rw [readCell_insertCell _ _ _ _ (filter_unlists m n), readCell_filter]
    split <;> rfl

@[simp] theorem readCell_writeCell_same (m : Memory) (n : Nat) (v : Byte) : readCell (writeCell m n v) n = v := by
  simp [readCell_writeCell]

theorem readCell_writeCell_ne (m : Memory) (n k : Nat) (v : Byte) (h : k ≠ n) :
    readCell (writeCell m n v) k = readCell m k := by
  simp [readCell_writeCell, h]

/-! ## The canonical form -/

/-- Taking entries out keeps the canonical form. -/
theorem wf_filter (m : Memory) (p : Host.Cell → Bool) (h : m.wf) : Memory.wf (m.filter p) :=
  ⟨h.1.filter p, fun x hx => h.2 x (List.mem_filter.mp hx).1⟩

theorem mem_insertCell (m : Memory) (n : Nat) (v : Byte) (x : Host.Cell) :
    x ∈ insertCell n v m ↔ x = (n, v) ∨ x ∈ m := by
  induction m with
  | nil => simp [insertCell]
  | cons y m ih =>
    obtain ⟨a, w⟩ := y
    simp only [insertCell]
    split
    · simp
    · simp [ih, or_left_comm]

/-- Putting in an entry that is not the unwritten byte keeps the canonical form. -/
theorem wf_insertCell (m : Memory) (n : Nat) (v : Byte) (h : m.wf) (hn : ∀ x ∈ m, x.1 ≠ n) (hb : n < 65536)
    (hv : v ≠ Config.unwrittenByte) : Memory.wf (insertCell n v m) := by
  refine ⟨?_, fun x hx => ?_⟩
  · induction m with
    | nil => simp [insertCell]
    | cons y m ih =>
      obtain ⟨a, w⟩ := y
      have hp := List.pairwise_cons.mp h.1
      have ha : a ≠ n := hn (a, w) (by simp)
      have hm : Memory.wf m := ⟨hp.2, fun x hx => h.2 x (by simp [hx])⟩
      simp only [insertCell]
      split
      · rename_i hlt
        refine List.pairwise_cons.mpr ⟨fun x hx => ?_, h.1⟩
        rcases List.mem_cons.mp hx with rfl | hx
        · exact hlt
        · exact lt_trans hlt (hp.1 x hx)
      · refine List.pairwise_cons.mpr ⟨fun x hx => ?_, ih hm (fun x hx => hn x (by simp [hx]))⟩
        rcases (mem_insertCell m n v x).mp hx with rfl | hx
        · show a < n
          omega
        · exact hp.1 x hx
  · rcases (mem_insertCell m n v x).mp hx with rfl | hx
    · exact ⟨hb, hv⟩
    · exact h.2 x hx

/-- A write keeps the canonical form. -/
theorem wf_writeCell (m : Memory) (n : Nat) (v : Byte) (h : m.wf) (hb : n < 65536) : Memory.wf (writeCell m n v) := by
  unfold writeCell
  by_cases hv : v = Config.unwrittenByte
  · simpa only [if_pos hv] using wf_filter m _ h
  · simpa only [if_neg hv] using wf_insertCell _ n v (wf_filter m _ h) (filter_unlists m n) hb hv

/-- The memory right after reset has the canonical form. -/
theorem wf_reset : State.reset.mem.wf := by decide

end Sys2Proof.Machine
end

