-- ==== Sys2Proof/Laws/Ops.lean ====
section
/-! SUPPORT. For each shared operation, what it can do, said once: the byte the environment gives, MemRead, MemWrite,
ports, Push16 and Pop16, calls and returns, the fetch. -/

namespace Sys2Proof.Machine

/-! ## The environment's byte -/

/-- The byte is the first one ready, or the free value; it is taken off the list. -/
theorem environmentByte_eq (free : Byte) (s : State) :
    environmentByte free s = (s.answers.headD free, { s with answers := s.answers.tail }) := by
  obtain ⟨_, _, _, _, _, _, _, _, _, _, _, _, _, _, _, _, _ | _, _, _, _⟩ := s <;> rfl

/-! ## MemRead -/

/-- What MemRead answers and leaves, by the kind of the address (R62). -/
theorem memRead_eq (a : Word) (s : State) : memRead a s =
    match memKind s.params a with
    | .ram => (readCell s.mem a.toNat, s)
    | .rom => (readCell s.mem a.toNat, s)
    | .absent => (Config.absentByte s.draws, { s with draws := s.draws + 1 })
    | .device => (s.answers.headD (Config.deviceOracle a s.history), { s with
        history := s.history ++ [.deviceRead a (s.answers.headD (Config.deviceOracle a s.history))]
        answers := s.answers.tail }) := by
  unfold memRead
  cases memKind s.params a <;> simp [environmentByte_eq, withEvent]

/-- A read of a `ram` or `rom` address returns the cell and changes nothing (R62, R73). -/
theorem memRead_of_readsCell (a : Word) (s : State) (h : ReadsCell s a) :
    memRead a s = (readCell s.mem a.toNat, s) := by
  rw [memRead_eq]
  rcases h with h | h <;> simp [h]

/-- MemRead changes nothing but the history, the answers and the draws. -/
theorem memRead_snd (a : Word) (s : State) :
    ∃ more taken n, (memRead a s).2 = { s with
        history := s.history ++ more, answers := s.answers.drop taken, draws := s.draws + n } := by
  rw [memRead_eq]
  cases memKind s.params a
  · exact ⟨[], 0, 0, by simp⟩
  · exact ⟨[], 0, 0, by simp⟩
  · exact ⟨[], 0, 1, by simp⟩
  · exact ⟨[.deviceRead a (s.answers.headD (Config.deviceOracle a s.history))], 1, 0, by simp⟩

@[simp] theorem memRead_a (w : Word) (s : State) : ((memRead w s).2).a = s.a := by obtain ⟨_, _, _, h⟩ := memRead_snd w s; rw [h]
@[simp] theorem memRead_b (w : Word) (s : State) : ((memRead w s).2).b = s.b := by obtain ⟨_, _, _, h⟩ := memRead_snd w s; rw [h]
@[simp] theorem memRead_c (w : Word) (s : State) : ((memRead w s).2).c = s.c := by obtain ⟨_, _, _, h⟩ := memRead_snd w s; rw [h]
@[simp] theorem memRead_d (w : Word) (s : State) : ((memRead w s).2).d = s.d := by obtain ⟨_, _, _, h⟩ := memRead_snd w s; rw [h]
@[simp] theorem memRead_e (w : Word) (s : State) : ((memRead w s).2).e = s.e := by obtain ⟨_, _, _, h⟩ := memRead_snd w s; rw [h]
@[simp] theorem memRead_h (w : Word) (s : State) : ((memRead w s).2).h = s.h := by obtain ⟨_, _, _, h⟩ := memRead_snd w s; rw [h]
@[simp] theorem memRead_l (w : Word) (s : State) : ((memRead w s).2).l = s.l := by obtain ⟨_, _, _, h⟩ := memRead_snd w s; rw [h]
@[simp] theorem memRead_f (w : Word) (s : State) : ((memRead w s).2).f = s.f := by obtain ⟨_, _, _, h⟩ := memRead_snd w s; rw [h]
@[simp] theorem memRead_sp (w : Word) (s : State) : ((memRead w s).2).sp = s.sp := by obtain ⟨_, _, _, h⟩ := memRead_snd w s; rw [h]
@[simp] theorem memRead_pc (w : Word) (s : State) : ((memRead w s).2).pc = s.pc := by obtain ⟨_, _, _, h⟩ := memRead_snd w s; rw [h]
@[simp] theorem memRead_inte (w : Word) (s : State) : ((memRead w s).2).inte = s.inte := by obtain ⟨_, _, _, h⟩ := memRead_snd w s; rw [h]
@[simp] theorem memRead_eiDelay (w : Word) (s : State) : ((memRead w s).2).eiDelay = s.eiDelay := by obtain ⟨_, _, _, h⟩ := memRead_snd w s; rw [h]
@[simp] theorem memRead_halted (w : Word) (s : State) : ((memRead w s).2).halted = s.halted := by obtain ⟨_, _, _, h⟩ := memRead_snd w s; rw [h]
@[simp] theorem memRead_mem (w : Word) (s : State) : ((memRead w s).2).mem = s.mem := by obtain ⟨_, _, _, h⟩ := memRead_snd w s; rw [h]
@[simp] theorem memRead_inputs (w : Word) (s : State) : ((memRead w s).2).inputs = s.inputs := by obtain ⟨_, _, _, h⟩ := memRead_snd w s; rw [h]
@[simp] theorem memRead_written (w : Word) (s : State) : ((memRead w s).2).written = s.written := by obtain ⟨_, _, _, h⟩ := memRead_snd w s; rw [h]
@[simp] theorem memRead_params (w : Word) (s : State) : ((memRead w s).2).params = s.params := by obtain ⟨_, _, _, h⟩ := memRead_snd w s; rw [h]

@[simp] theorem getReg_memRead (r : Reg) (w : Word) (s : State) : getReg r (memRead w s).2 = getReg r s := by
  cases r <;> simp [getReg]

/-! ## MemWrite -/

/-- What MemWrite leaves, by the kind of the address (R63). -/
theorem memWrite_eq (a : Word) (v : Byte) (s : State) : memWrite a v s =
    match memKind s.params a with
    | .ram => { s with mem := writeCell s.mem a.toNat v }
    | .rom => s
    | .absent => s
    | .device => { s with history := s.history ++ [.deviceWrite a v] } := by
  unfold memWrite
  cases memKind s.params a <;> rfl

/-- MemWrite changes nothing but the memory and the history. -/
theorem memWrite_rest (a : Word) (v : Byte) (s : State) :
    memWrite a v s = { s with mem := (memWrite a v s).mem, history := (memWrite a v s).history } := by
  rw [memWrite_eq]
  cases memKind s.params a <;> rfl

@[simp] theorem memWrite_a (w : Word) (v : Byte) (s : State) : (memWrite w v s).a = s.a := by rw [memWrite_rest]
@[simp] theorem memWrite_b (w : Word) (v : Byte) (s : State) : (memWrite w v s).b = s.b := by rw [memWrite_rest]
@[simp] theorem memWrite_c (w : Word) (v : Byte) (s : State) : (memWrite w v s).c = s.c := by rw [memWrite_rest]
@[simp] theorem memWrite_d (w : Word) (v : Byte) (s : State) : (memWrite w v s).d = s.d := by rw [memWrite_rest]
@[simp] theorem memWrite_e (w : Word) (v : Byte) (s : State) : (memWrite w v s).e = s.e := by rw [memWrite_rest]
@[simp] theorem memWrite_h (w : Word) (v : Byte) (s : State) : (memWrite w v s).h = s.h := by rw [memWrite_rest]
@[simp] theorem memWrite_l (w : Word) (v : Byte) (s : State) : (memWrite w v s).l = s.l := by rw [memWrite_rest]
@[simp] theorem memWrite_f (w : Word) (v : Byte) (s : State) : (memWrite w v s).f = s.f := by rw [memWrite_rest]
@[simp] theorem memWrite_sp (w : Word) (v : Byte) (s : State) : (memWrite w v s).sp = s.sp := by rw [memWrite_rest]
@[simp] theorem memWrite_pc (w : Word) (v : Byte) (s : State) : (memWrite w v s).pc = s.pc := by rw [memWrite_rest]
@[simp] theorem memWrite_inte (w : Word) (v : Byte) (s : State) : (memWrite w v s).inte = s.inte := by rw [memWrite_rest]
@[simp] theorem memWrite_eiDelay (w : Word) (v : Byte) (s : State) : (memWrite w v s).eiDelay = s.eiDelay := by rw [memWrite_rest]
@[simp] theorem memWrite_halted (w : Word) (v : Byte) (s : State) : (memWrite w v s).halted = s.halted := by rw [memWrite_rest]
@[simp] theorem memWrite_inputs (w : Word) (v : Byte) (s : State) : (memWrite w v s).inputs = s.inputs := by rw [memWrite_rest]
@[simp] theorem memWrite_answers (w : Word) (v : Byte) (s : State) : (memWrite w v s).answers = s.answers := by rw [memWrite_rest]
@[simp] theorem memWrite_draws (w : Word) (v : Byte) (s : State) : (memWrite w v s).draws = s.draws := by rw [memWrite_rest]
@[simp] theorem memWrite_written (w : Word) (v : Byte) (s : State) : (memWrite w v s).written = s.written := by rw [memWrite_rest]
@[simp] theorem memWrite_params (w : Word) (v : Byte) (s : State) : (memWrite w v s).params = s.params := by rw [memWrite_rest]

@[simp] theorem getReg_memWrite (r : Reg) (w : Word) (v : Byte) (s : State) :
    getReg r (memWrite w v s) = getReg r s := by
  cases r <;> simp [getReg]

/-- The history after MemWrite: one event more for a `device` address. -/
theorem memWrite_history (a : Word) (v : Byte) (s : State) : (memWrite a v s).history =
    s.history ++ if memKind s.params a = .device then [.deviceWrite a v] else [] := by
  rw [memWrite_eq]
  cases memKind s.params a <;> simp

/-- Every byte after MemWrite: the one written, if its address is `ram`, and the others as before. -/
theorem readCell_memWrite (a : Word) (v : Byte) (s : State) (n : Nat) : readCell (memWrite a v s).mem n =
    if memKind s.params a = .ram ∧ n = a.toNat then v else readCell s.mem n := by
  rw [memWrite_eq]
  cases memKind s.params a <;> simp [readCell_writeCell]

/-- MemWrite keeps the canonical form of memory. -/
theorem wf_memWrite (a : Word) (v : Byte) (s : State) (h : s.mem.wf) : (memWrite a v s).mem.wf := by
  rw [memWrite_eq]
  cases memKind s.params a
  · exact wf_writeCell _ _ _ h a.isLt
  all_goals exact h

/-- One MemWrite is one store. -/
theorem storesBytes_memWrite (a : Word) (v : Byte) (s : State) : StoresBytes [(a, v)] s (memWrite a v s) := by
  refine ⟨?_, ?_, ?_, ?_, ?_⟩
  · intro w hw hr
    obtain rfl : w = (a, v) := by simpa using hw
    rw [readCell_memWrite]
    exact if_pos ⟨hr, rfl⟩
  · intro n hn
    rw [readCell_memWrite]
    exact if_neg fun h => hn (a, v) (by simp) h.1 h.2
  · rw [memWrite_history]
    by_cases h : memKind s.params a = .device <;> simp [h]
  · simp
  · simp

/-- Two MemWrites at different addresses are two stores. -/
theorem storesBytes_memWrite_two (a b : Word) (v w : Byte) (s : State) (hab : a ≠ b) :
    StoresBytes [(a, v), (b, w)] s (memWrite b w (memWrite a v s)) := by
  have hne : a.toNat ≠ b.toNat := fun h => hab (BitVec.eq_of_toNat_eq h)
  refine ⟨?_, ?_, ?_, ?_, ?_⟩
  · intro x hx hr
    have hx' : x = (a, v) ∨ x = (b, w) := by simpa using hx
    rcases hx' with rfl | rfl
    · rw [readCell_memWrite, if_neg (fun h => hne h.2), readCell_memWrite]
      exact if_pos ⟨hr, rfl⟩
    · rw [readCell_memWrite]
      exact if_pos ⟨by rw [memWrite_params]; exact hr, rfl⟩
  · intro n hn
    rw [readCell_memWrite, if_neg (fun h => hn (b, w) (by simp) (by have := h.1; rwa [memWrite_params] at this) h.2), readCell_memWrite]
    exact if_neg fun h => hn (a, v) (by simp) h.1 h.2
  · rw [memWrite_history, memWrite_history, memWrite_params]
    by_cases ha : memKind s.params a = .device <;> by_cases hb : memKind s.params b = .device <;> simp [ha, hb]
  · simp
  · simp

/-! ## Ports -/

/-- What a port read answers and leaves (R64). -/
theorem ioRead_eq (port : Byte) (s : State) : ioRead port s =
    (s.answers.headD (Config.inOracle port s.history), { s with
      history := s.history ++ [.portRead port (s.answers.headD (Config.inOracle port s.history))]
      answers := s.answers.tail }) := by
  simp [ioRead, environmentByte_eq, withEvent]

/-! ## Operands -/

@[simp] theorem get8_reg (r : Reg) (s : State) : get8 (.reg r) s = (getReg r s, s) := rfl

@[simp] theorem get8_m (s : State) : get8 .m s = memRead (regHL s) s := rfl

@[simp] theorem set8_reg (r : Reg) (v : Byte) (s : State) : set8 (.reg r) v s = setReg r v s := rfl

@[simp] theorem set8_m (v : Byte) (s : State) : set8 .m v s = memWrite (regHL s) v s := rfl

@[simp] theorem get8_a (o : Operand8) (s : State) : ((get8 o s).2).a = s.a := by cases o <;> simp
@[simp] theorem get8_b (o : Operand8) (s : State) : ((get8 o s).2).b = s.b := by cases o <;> simp
@[simp] theorem get8_c (o : Operand8) (s : State) : ((get8 o s).2).c = s.c := by cases o <;> simp
@[simp] theorem get8_d (o : Operand8) (s : State) : ((get8 o s).2).d = s.d := by cases o <;> simp
@[simp] theorem get8_e (o : Operand8) (s : State) : ((get8 o s).2).e = s.e := by cases o <;> simp
@[simp] theorem get8_h (o : Operand8) (s : State) : ((get8 o s).2).h = s.h := by cases o <;> simp
@[simp] theorem get8_l (o : Operand8) (s : State) : ((get8 o s).2).l = s.l := by cases o <;> simp
@[simp] theorem get8_f (o : Operand8) (s : State) : ((get8 o s).2).f = s.f := by cases o <;> simp
@[simp] theorem get8_sp (o : Operand8) (s : State) : ((get8 o s).2).sp = s.sp := by cases o <;> simp
@[simp] theorem get8_pc (o : Operand8) (s : State) : ((get8 o s).2).pc = s.pc := by cases o <;> simp
@[simp] theorem get8_inte (o : Operand8) (s : State) : ((get8 o s).2).inte = s.inte := by cases o <;> simp
@[simp] theorem get8_eiDelay (o : Operand8) (s : State) : ((get8 o s).2).eiDelay = s.eiDelay := by cases o <;> simp
@[simp] theorem get8_halted (o : Operand8) (s : State) : ((get8 o s).2).halted = s.halted := by cases o <;> simp
@[simp] theorem get8_mem (o : Operand8) (s : State) : ((get8 o s).2).mem = s.mem := by cases o <;> simp
@[simp] theorem get8_inputs (o : Operand8) (s : State) : ((get8 o s).2).inputs = s.inputs := by cases o <;> simp
@[simp] theorem get8_written (o : Operand8) (s : State) : ((get8 o s).2).written = s.written := by cases o <;> simp
@[simp] theorem get8_params (o : Operand8) (s : State) : ((get8 o s).2).params = s.params := by cases o <;> simp

@[simp] theorem getReg_get8 (r : Reg) (o : Operand8) (s : State) : getReg r (get8 o s).2 = getReg r s := by
  cases o <;> simp

/-! ## Stack -/

/-- The two addresses of a push differ. -/
theorem pushAddresses_ne (a : Word) : a - 1 ≠ a - 2 := by
  intro h
  bv_omega

/-- The two addresses of a 16-bit access differ. -/
theorem succ_ne_self (a : Word) : a + 1 ≠ a := by
  intro h
  bv_omega

@[simp] theorem push16_sp (v : Word) (s : State) : (push16 v s).sp = s.sp - 2 := rfl

@[simp] theorem push16_a (x : Word) (s : State) : (push16 x s).a = s.a := by simp [push16]
@[simp] theorem push16_b (x : Word) (s : State) : (push16 x s).b = s.b := by simp [push16]
@[simp] theorem push16_c (x : Word) (s : State) : (push16 x s).c = s.c := by simp [push16]
@[simp] theorem push16_d (x : Word) (s : State) : (push16 x s).d = s.d := by simp [push16]
@[simp] theorem push16_e (x : Word) (s : State) : (push16 x s).e = s.e := by simp [push16]
@[simp] theorem push16_h (x : Word) (s : State) : (push16 x s).h = s.h := by simp [push16]
@[simp] theorem push16_l (x : Word) (s : State) : (push16 x s).l = s.l := by simp [push16]
@[simp] theorem push16_f (x : Word) (s : State) : (push16 x s).f = s.f := by simp [push16]
@[simp] theorem push16_pc (x : Word) (s : State) : (push16 x s).pc = s.pc := by simp [push16]
@[simp] theorem push16_inte (x : Word) (s : State) : (push16 x s).inte = s.inte := by simp [push16]
@[simp] theorem push16_eiDelay (x : Word) (s : State) : (push16 x s).eiDelay = s.eiDelay := by simp [push16]
@[simp] theorem push16_halted (x : Word) (s : State) : (push16 x s).halted = s.halted := by simp [push16]
@[simp] theorem push16_inputs (x : Word) (s : State) : (push16 x s).inputs = s.inputs := by simp [push16]
@[simp] theorem push16_answers (x : Word) (s : State) : (push16 x s).answers = s.answers := by simp [push16]
@[simp] theorem push16_draws (x : Word) (s : State) : (push16 x s).draws = s.draws := by simp [push16]
@[simp] theorem push16_written (x : Word) (s : State) : (push16 x s).written = s.written := by simp [push16]
@[simp] theorem push16_params (x : Word) (s : State) : (push16 x s).params = s.params := by simp [push16]

@[simp] theorem getReg_push16 (r : Reg) (x : Word) (s : State) : getReg r (push16 x s) = getReg r s := by
  cases r <;> simp [getReg]

/-- The stores of a push (R82). -/
theorem storesBytes_push16 (v : Word) (s : State) :
    StoresBytes [(s.sp - 1, highByte v), (s.sp - 2, lowByte v)] s (push16 v s) :=
  storesBytes_memWrite_two (s.sp - 1) (s.sp - 2) (highByte v) (lowByte v) s (pushAddresses_ne s.sp)

/-- A push keeps the canonical form of memory. -/
theorem wf_push16 (v : Word) (s : State) (h : s.mem.wf) : (push16 v s).mem.wf :=
  wf_memWrite _ _ _ (wf_memWrite _ _ _ h)

@[simp] theorem pop16_sp (s : State) : (pop16 s).2.sp = s.sp + 2 := rfl

@[simp] theorem pop16_a (s : State) : ((pop16 s).2).a = s.a := by simp [pop16]
@[simp] theorem pop16_b (s : State) : ((pop16 s).2).b = s.b := by simp [pop16]
@[simp] theorem pop16_c (s : State) : ((pop16 s).2).c = s.c := by simp [pop16]
@[simp] theorem pop16_d (s : State) : ((pop16 s).2).d = s.d := by simp [pop16]
@[simp] theorem pop16_e (s : State) : ((pop16 s).2).e = s.e := by simp [pop16]
@[simp] theorem pop16_h (s : State) : ((pop16 s).2).h = s.h := by simp [pop16]
@[simp] theorem pop16_l (s : State) : ((pop16 s).2).l = s.l := by simp [pop16]
@[simp] theorem pop16_f (s : State) : ((pop16 s).2).f = s.f := by simp [pop16]
@[simp] theorem pop16_pc (s : State) : ((pop16 s).2).pc = s.pc := by simp [pop16]
@[simp] theorem pop16_inte (s : State) : ((pop16 s).2).inte = s.inte := by simp [pop16]
@[simp] theorem pop16_eiDelay (s : State) : ((pop16 s).2).eiDelay = s.eiDelay := by simp [pop16]
@[simp] theorem pop16_halted (s : State) : ((pop16 s).2).halted = s.halted := by simp [pop16]
@[simp] theorem pop16_mem (s : State) : ((pop16 s).2).mem = s.mem := by simp [pop16]
@[simp] theorem pop16_inputs (s : State) : ((pop16 s).2).inputs = s.inputs := by simp [pop16]
@[simp] theorem pop16_written (s : State) : ((pop16 s).2).written = s.written := by simp [pop16]
@[simp] theorem pop16_params (s : State) : ((pop16 s).2).params = s.params := by simp [pop16]

@[simp] theorem getReg_pop16 (r : Reg) (s : State) : getReg r (pop16 s).2 = getReg r s := by
  cases r <;> simp [getReg]

/-- What a pop answers when both cells can be read without side effect (R83). -/
theorem pop16_of_readsCell (s : State) (h0 : ReadsCell s s.sp) (h1 : ReadsCell s (s.sp + 1)) :
    pop16 s = (joinBytes (readCell s.mem (s.sp + 1).toNat) (readCell s.mem s.sp.toNat), { s with sp := s.sp + 2 }) := by
  unfold pop16
  rw [memRead_of_readsCell _ _ h0]
  dsimp only
  rw [memRead_of_readsCell _ _ h1]

/-! ## Calls, returns, interrupt entry -/

@[simp] theorem callTo_pc (w : Word) (s : State) : (callTo w s).pc = w := rfl

@[simp] theorem callTo_sp (w : Word) (s : State) : (callTo w s).sp = s.sp - 2 := rfl

@[simp] theorem callTo_a (x : Word) (s : State) : (callTo x s).a = s.a := by simp [callTo]
@[simp] theorem callTo_b (x : Word) (s : State) : (callTo x s).b = s.b := by simp [callTo]
@[simp] theorem callTo_c (x : Word) (s : State) : (callTo x s).c = s.c := by simp [callTo]
@[simp] theorem callTo_d (x : Word) (s : State) : (callTo x s).d = s.d := by simp [callTo]
@[simp] theorem callTo_e (x : Word) (s : State) : (callTo x s).e = s.e := by simp [callTo]
@[simp] theorem callTo_h (x : Word) (s : State) : (callTo x s).h = s.h := by simp [callTo]
@[simp] theorem callTo_l (x : Word) (s : State) : (callTo x s).l = s.l := by simp [callTo]
@[simp] theorem callTo_f (x : Word) (s : State) : (callTo x s).f = s.f := by simp [callTo]
@[simp] theorem callTo_inte (x : Word) (s : State) : (callTo x s).inte = s.inte := by simp [callTo]
@[simp] theorem callTo_eiDelay (x : Word) (s : State) : (callTo x s).eiDelay = s.eiDelay := by simp [callTo]
@[simp] theorem callTo_halted (x : Word) (s : State) : (callTo x s).halted = s.halted := by simp [callTo]
@[simp] theorem callTo_inputs (x : Word) (s : State) : (callTo x s).inputs = s.inputs := by simp [callTo]
@[simp] theorem callTo_answers (x : Word) (s : State) : (callTo x s).answers = s.answers := by simp [callTo]
@[simp] theorem callTo_draws (x : Word) (s : State) : (callTo x s).draws = s.draws := by simp [callTo]
@[simp] theorem callTo_written (x : Word) (s : State) : (callTo x s).written = s.written := by simp [callTo]
@[simp] theorem callTo_params (x : Word) (s : State) : (callTo x s).params = s.params := by simp [callTo]

@[simp] theorem getReg_callTo (r : Reg) (x : Word) (s : State) : getReg r (callTo x s) = getReg r s := by
  cases r <;> simp [getReg]

/-- A call does what `Calls` says (R250). -/
theorem calls_callTo (w : Word) (s : State) : Calls w s (callTo w s) :=
  ⟨rfl, rfl, storesBytes_push16 s.pc s, fun r => getReg_callTo r w s, callTo_f w s⟩

@[simp] theorem returnFrom_sp (s : State) : (returnFrom s).sp = s.sp + 2 := rfl

@[simp] theorem returnFrom_a (s : State) : (returnFrom s).a = s.a := by simp [returnFrom]
@[simp] theorem returnFrom_b (s : State) : (returnFrom s).b = s.b := by simp [returnFrom]
@[simp] theorem returnFrom_c (s : State) : (returnFrom s).c = s.c := by simp [returnFrom]
@[simp] theorem returnFrom_d (s : State) : (returnFrom s).d = s.d := by simp [returnFrom]
@[simp] theorem returnFrom_e (s : State) : (returnFrom s).e = s.e := by simp [returnFrom]
@[simp] theorem returnFrom_h (s : State) : (returnFrom s).h = s.h := by simp [returnFrom]
@[simp] theorem returnFrom_l (s : State) : (returnFrom s).l = s.l := by simp [returnFrom]
@[simp] theorem returnFrom_f (s : State) : (returnFrom s).f = s.f := by simp [returnFrom]
@[simp] theorem returnFrom_inte (s : State) : (returnFrom s).inte = s.inte := by simp [returnFrom]
@[simp] theorem returnFrom_eiDelay (s : State) : (returnFrom s).eiDelay = s.eiDelay := by simp [returnFrom]
@[simp] theorem returnFrom_halted (s : State) : (returnFrom s).halted = s.halted := by simp [returnFrom]
@[simp] theorem returnFrom_mem (s : State) : (returnFrom s).mem = s.mem := by simp [returnFrom]
@[simp] theorem returnFrom_inputs (s : State) : (returnFrom s).inputs = s.inputs := by simp [returnFrom]
@[simp] theorem returnFrom_written (s : State) : (returnFrom s).written = s.written := by simp [returnFrom]
@[simp] theorem returnFrom_params (s : State) : (returnFrom s).params = s.params := by simp [returnFrom]

@[simp] theorem getReg_returnFrom (r : Reg) (s : State) : getReg r (returnFrom s) = getReg r s := by
  cases r <;> simp [getReg]

/-- A return does what `Returns` says (R250). -/
theorem returns_returnFrom (s : State) : Returns s (returnFrom s) :=
  ⟨rfl, rfl, fun r => getReg_returnFrom r s, by simp, by simp [SameControl], fun n => by simp, by
    simp [SameEvents, returnFrom, pop16, jumpTo]⟩

/-! ## Fetch -/

@[simp] theorem fetch8_fst (s : State) : (fetch8 s).1 = (memRead s.pc s).1 := rfl

@[simp] theorem fetch8_pc (s : State) : (fetch8 s).2.pc = s.pc + 1 := rfl

@[simp] theorem fetch8_a (s : State) : ((fetch8 s).2).a = s.a := by simp [fetch8]
@[simp] theorem fetch8_b (s : State) : ((fetch8 s).2).b = s.b := by simp [fetch8]
@[simp] theorem fetch8_c (s : State) : ((fetch8 s).2).c = s.c := by simp [fetch8]
@[simp] theorem fetch8_d (s : State) : ((fetch8 s).2).d = s.d := by simp [fetch8]
@[simp] theorem fetch8_e (s : State) : ((fetch8 s).2).e = s.e := by simp [fetch8]
@[simp] theorem fetch8_h (s : State) : ((fetch8 s).2).h = s.h := by simp [fetch8]
@[simp] theorem fetch8_l (s : State) : ((fetch8 s).2).l = s.l := by simp [fetch8]
@[simp] theorem fetch8_f (s : State) : ((fetch8 s).2).f = s.f := by simp [fetch8]
@[simp] theorem fetch8_sp (s : State) : ((fetch8 s).2).sp = s.sp := by simp [fetch8]
@[simp] theorem fetch8_inte (s : State) : ((fetch8 s).2).inte = s.inte := by simp [fetch8]
@[simp] theorem fetch8_eiDelay (s : State) : ((fetch8 s).2).eiDelay = s.eiDelay := by simp [fetch8]
@[simp] theorem fetch8_halted (s : State) : ((fetch8 s).2).halted = s.halted := by simp [fetch8]
@[simp] theorem fetch8_mem (s : State) : ((fetch8 s).2).mem = s.mem := by simp [fetch8]
@[simp] theorem fetch8_inputs (s : State) : ((fetch8 s).2).inputs = s.inputs := by simp [fetch8]
@[simp] theorem fetch8_written (s : State) : ((fetch8 s).2).written = s.written := by simp [fetch8]
@[simp] theorem fetch8_params (s : State) : ((fetch8 s).2).params = s.params := by simp [fetch8]

@[simp] theorem fetch16_a (s : State) : ((fetch16 s).2).a = s.a := by simp [fetch16]
@[simp] theorem fetch16_b (s : State) : ((fetch16 s).2).b = s.b := by simp [fetch16]
@[simp] theorem fetch16_c (s : State) : ((fetch16 s).2).c = s.c := by simp [fetch16]
@[simp] theorem fetch16_d (s : State) : ((fetch16 s).2).d = s.d := by simp [fetch16]
@[simp] theorem fetch16_e (s : State) : ((fetch16 s).2).e = s.e := by simp [fetch16]
@[simp] theorem fetch16_h (s : State) : ((fetch16 s).2).h = s.h := by simp [fetch16]
@[simp] theorem fetch16_l (s : State) : ((fetch16 s).2).l = s.l := by simp [fetch16]
@[simp] theorem fetch16_f (s : State) : ((fetch16 s).2).f = s.f := by simp [fetch16]
@[simp] theorem fetch16_sp (s : State) : ((fetch16 s).2).sp = s.sp := by simp [fetch16]
@[simp] theorem fetch16_inte (s : State) : ((fetch16 s).2).inte = s.inte := by simp [fetch16]
@[simp] theorem fetch16_eiDelay (s : State) : ((fetch16 s).2).eiDelay = s.eiDelay := by simp [fetch16]
@[simp] theorem fetch16_halted (s : State) : ((fetch16 s).2).halted = s.halted := by simp [fetch16]
@[simp] theorem fetch16_mem (s : State) : ((fetch16 s).2).mem = s.mem := by simp [fetch16]
@[simp] theorem fetch16_inputs (s : State) : ((fetch16 s).2).inputs = s.inputs := by simp [fetch16]
@[simp] theorem fetch16_written (s : State) : ((fetch16 s).2).written = s.written := by simp [fetch16]
@[simp] theorem fetch16_params (s : State) : ((fetch16 s).2).params = s.params := by simp [fetch16]

/-- The fetch of an instruction changes PC and the events only. -/
theorem fetchInstr_rest (s : State) : ∃ pc h an n, (fetchInstr s).2 = { s with
    pc := pc, history := s.history ++ h, answers := s.answers.drop an, draws := s.draws + n } := by
  have one : ∀ u : State, ∃ pc h an n, (fetch8 u).2 = { u with
      pc := pc, history := u.history ++ h, answers := u.answers.drop an, draws := u.draws + n } := by
    intro u
    obtain ⟨h, an, n, e⟩ := memRead_snd u.pc u
    exact ⟨u.pc + 1, h, an, n, by simp [fetch8, e]⟩
  have two : ∀ u : State, ∃ pc h an n, (fetch8 (fetch8 u).2).2 = { u with
      pc := pc, history := u.history ++ h, answers := u.answers.drop an, draws := u.draws + n } := by
    intro u
    obtain ⟨p, h, an, n, e⟩ := one u
    obtain ⟨p', h', an', n', e'⟩ := one (fetch8 u).2
    refine ⟨p', h ++ h', an + an', n + n', ?_⟩
    rw [e', e]
    simp [Nat.add_assoc]
  have three : ∀ u : State, ∃ pc h an n, (fetch16 (fetch8 u).2).2 = { u with
      pc := pc, history := u.history ++ h, answers := u.answers.drop an, draws := u.draws + n } := by
    intro u
    obtain ⟨p, h, an, n, e⟩ := one u
    obtain ⟨p', h', an', n', e'⟩ := two (fetch8 u).2
    refine ⟨p', h ++ h', an + an', n + n', ?_⟩
    show (fetch8 (fetch8 (fetch8 u).2).2).2 = _
    rw [e', e]
    simp [Nat.add_assoc]
  unfold fetchInstr
  dsimp only
  split
  · exact one s
  · exact two s
  · exact three s
  · split
    · exact one s
    · exact three s

@[simp] theorem fetchInstr_a (s : State) : ((fetchInstr s).2).a = s.a := by obtain ⟨_, _, _, _, h⟩ := fetchInstr_rest s; rw [h]
@[simp] theorem fetchInstr_b (s : State) : ((fetchInstr s).2).b = s.b := by obtain ⟨_, _, _, _, h⟩ := fetchInstr_rest s; rw [h]
@[simp] theorem fetchInstr_c (s : State) : ((fetchInstr s).2).c = s.c := by obtain ⟨_, _, _, _, h⟩ := fetchInstr_rest s; rw [h]
@[simp] theorem fetchInstr_d (s : State) : ((fetchInstr s).2).d = s.d := by obtain ⟨_, _, _, _, h⟩ := fetchInstr_rest s; rw [h]
@[simp] theorem fetchInstr_e (s : State) : ((fetchInstr s).2).e = s.e := by obtain ⟨_, _, _, _, h⟩ := fetchInstr_rest s; rw [h]
@[simp] theorem fetchInstr_h (s : State) : ((fetchInstr s).2).h = s.h := by obtain ⟨_, _, _, _, h⟩ := fetchInstr_rest s; rw [h]
@[simp] theorem fetchInstr_l (s : State) : ((fetchInstr s).2).l = s.l := by obtain ⟨_, _, _, _, h⟩ := fetchInstr_rest s; rw [h]
@[simp] theorem fetchInstr_f (s : State) : ((fetchInstr s).2).f = s.f := by obtain ⟨_, _, _, _, h⟩ := fetchInstr_rest s; rw [h]
@[simp] theorem fetchInstr_sp (s : State) : ((fetchInstr s).2).sp = s.sp := by obtain ⟨_, _, _, _, h⟩ := fetchInstr_rest s; rw [h]
@[simp] theorem fetchInstr_inte (s : State) : ((fetchInstr s).2).inte = s.inte := by obtain ⟨_, _, _, _, h⟩ := fetchInstr_rest s; rw [h]
@[simp] theorem fetchInstr_eiDelay (s : State) : ((fetchInstr s).2).eiDelay = s.eiDelay := by obtain ⟨_, _, _, _, h⟩ := fetchInstr_rest s; rw [h]
@[simp] theorem fetchInstr_halted (s : State) : ((fetchInstr s).2).halted = s.halted := by obtain ⟨_, _, _, _, h⟩ := fetchInstr_rest s; rw [h]
@[simp] theorem fetchInstr_mem (s : State) : ((fetchInstr s).2).mem = s.mem := by obtain ⟨_, _, _, _, h⟩ := fetchInstr_rest s; rw [h]
@[simp] theorem fetchInstr_inputs (s : State) : ((fetchInstr s).2).inputs = s.inputs := by obtain ⟨_, _, _, _, h⟩ := fetchInstr_rest s; rw [h]
@[simp] theorem fetchInstr_written (s : State) : ((fetchInstr s).2).written = s.written := by obtain ⟨_, _, _, _, h⟩ := fetchInstr_rest s; rw [h]
@[simp] theorem fetchInstr_params (s : State) : ((fetchInstr s).2).params = s.params := by obtain ⟨_, _, _, _, h⟩ := fetchInstr_rest s; rw [h]

end Sys2Proof.Machine
end

