-- ==== Sys2Proof/Laws/Exec.lean ====
section
/-! SUPPORT. `exec` of each group of like instructions, as one equation over the shared operation it calls. -/

namespace Sys2Proof.Machine

/-! ## Groups 1 to 4 -/

@[simp] theorem exec_mov (dst src : Reg) (s : State) :
    exec (.mov dst src) s = .next (moveRegister dst src s) := by cases dst <;> cases src <;> rfl

@[simp] theorem exec_movFromM (dst : Reg) (s : State) :
    exec (.movFromM dst) s = .next (moveFromMemory dst s) := by cases dst <;> rfl

@[simp] theorem exec_movToM (src : Reg) (s : State) :
    exec (.movToM src) s = .next (moveToMemory src s) := by cases src <;> rfl

@[simp] theorem exec_mvi (dst : Reg) (v : Byte) (s : State) :
    exec (.mvi dst v) s = .next (moveImmediate dst v s) := by cases dst <;> rfl

@[simp] theorem exec_mviM (v : Byte) (s : State) : exec (.mviM v) s = .next (moveImmediateToMemory v s) := rfl
@[simp] theorem exec_staxB (s : State) : exec .staxB s = .next (storeIndirect .bc s) := rfl
@[simp] theorem exec_staxD (s : State) : exec .staxD s = .next (storeIndirect .de s) := rfl
@[simp] theorem exec_ldaxB (s : State) : exec .ldaxB s = .next (loadIndirect .bc s) := rfl
@[simp] theorem exec_ldaxD (s : State) : exec .ldaxD s = .next (loadIndirect .de s) := rfl
@[simp] theorem exec_sta (adr : Word) (s : State) : exec (.sta adr) s = .next (storeDirect adr s) := rfl
@[simp] theorem exec_lda (adr : Word) (s : State) : exec (.lda adr) s = .next (loadDirect adr s) := rfl
@[simp] theorem exec_sphl (s : State) : exec .sphl s = .next (loadSpFromHl s) := rfl

@[simp] theorem exec_lxi (p : Pair) (v : Word) (s : State) :
    exec (.lxi p v) s = .next (loadPairImmediate p v s) := by rcases p with (_ | _ | _) | _ <;> rfl

@[simp] theorem exec_shld (adr : Word) (s : State) : exec (.shld adr) s = .next (storeHlDirect adr s) := rfl
@[simp] theorem exec_lhld (adr : Word) (s : State) : exec (.lhld adr) s = .next (loadHlDirect adr s) := rfl

@[simp] theorem exec_push (p : RegPair) (s : State) :
    exec (.push p) s = .next (pushPair p s) := by cases p <;> rfl

@[simp] theorem exec_pop (p : RegPair) (s : State) :
    exec (.pop p) s = .next (popPair p s) := by cases p <;> rfl

@[simp] theorem exec_pushPSW (s : State) : exec .pushPSW s = .next (pushPsw s) := rfl
@[simp] theorem exec_popPSW (s : State) : exec .popPSW s = .next (popPsw s) := rfl
@[simp] theorem exec_inN (n : Byte) (s : State) : exec (.inN n) s = .next (inputFrom n s) := rfl
@[simp] theorem exec_outN (n : Byte) (s : State) : exec (.outN n) s = .next (outputTo n s) := rfl
@[simp] theorem exec_xchg (s : State) : exec .xchg s = .next (exchangeHlDe s) := rfl
@[simp] theorem exec_xthl (s : State) : exec .xthl s = .next (exchangeHlStack s) := rfl

/-! ## Groups 5 to 7 -/

@[simp] theorem exec_cmc (s : State) : exec .cmc s = .next (complementCarry s) := rfl
@[simp] theorem exec_stc (s : State) : exec .stc s = .next (setCarry s) := rfl
@[simp] theorem exec_cma (s : State) : exec .cma s = .next (complementAccumulator s) := rfl
@[simp] theorem exec_daa (s : State) : exec .daa s = .next (decimalAdjust s) := rfl

@[simp] theorem exec_inr (o : Operand8) (s : State) :
    exec (.inr o) s = .next (incrementOperand o s) := by rcases o with (_ | _ | _ | _ | _ | _ | _) | _ <;> rfl

@[simp] theorem exec_dcr (o : Operand8) (s : State) :
    exec (.dcr o) s = .next (decrementOperand o s) := by rcases o with (_ | _ | _ | _ | _ | _ | _) | _ <;> rfl

@[simp] theorem exec_inx (p : Pair) (s : State) :
    exec (.inx p) s = .next (incrementPair p s) := by rcases p with (_ | _ | _) | _ <;> rfl

@[simp] theorem exec_dcx (p : Pair) (s : State) :
    exec (.dcx p) s = .next (decrementPair p s) := by rcases p with (_ | _ | _) | _ <;> rfl

@[simp] theorem exec_alu (op : AluOp) (o : Operand8) (s : State) :
    exec (.alu op o) s = .next (aluWithOperand op o s) := by
  cases op <;> rcases o with (_ | _ | _ | _ | _ | _ | _) | _ <;> rfl

@[simp] theorem exec_aluImm (op : AluOp) (v : Byte) (s : State) :
    exec (.aluImm op v) s = .next (aluWithByte op v s) := by cases op <;> rfl

@[simp] theorem exec_dad (p : Pair) (s : State) :
    exec (.dad p) s = .next (addPairToHl p s) := by rcases p with (_ | _ | _) | _ <;> rfl

@[simp] theorem exec_rlc (s : State) : exec .rlc s = .next (rotateLeft s) := rfl
@[simp] theorem exec_rrc (s : State) : exec .rrc s = .next (rotateRight s) := rfl
@[simp] theorem exec_ral (s : State) : exec .ral s = .next (rotateLeftThroughCarry s) := rfl
@[simp] theorem exec_rar (s : State) : exec .rar s = .next (rotateRightThroughCarry s) := rfl

/-! ## Groups 8 and 9 -/

@[simp] theorem exec_jmp (adr : Word) (s : State) : exec (.jmp adr) s = .next (jumpTo adr s) := rfl
@[simp] theorem exec_pchl (s : State) : exec .pchl s = .next (jumpTo (regHL s) s) := rfl
@[simp] theorem exec_call (adr : Word) (s : State) : exec (.call adr) s = .next (callTo adr s) := rfl
@[simp] theorem exec_ret (s : State) : exec .ret s = .next (returnFrom s) := rfl

@[simp] theorem exec_jumpCond (cond : Cond) (adr : Word) (s : State) :
    exec (.jumpCond cond adr) s = .next (jumpIf cond adr s) := by cases cond <;> rfl

@[simp] theorem exec_callCond (cond : Cond) (adr : Word) (s : State) :
    exec (.callCond cond adr) s = .next (callIf cond adr s) := by cases cond <;> rfl

@[simp] theorem exec_retCond (cond : Cond) (s : State) :
    exec (.retCond cond) s = .next (returnIf cond s) := by cases cond <;> rfl

@[simp] theorem exec_rst (n : Fin 8) (s : State) : exec (.rst n) s = .next (restart n s) := by
  fin_cases n <;> rfl

@[simp] theorem exec_nop (s : State) : exec .nop s = .next s := rfl
@[simp] theorem exec_hlt (s : State) : exec .hlt s = .next (halt s) := rfl
@[simp] theorem exec_ei (s : State) : exec .ei s = .next (enableInterrupts s) := rfl
@[simp] theorem exec_di (s : State) : exec .di s = .next (disableInterrupts s) := rfl

/-! ## Every instruction is of one of these forms -/

/-- The forms of an instruction: one for each group of like rows of the opcode table. -/
inductive Form : Instr → Prop where
  | mov (dst src : Reg) : Form (.mov dst src)
  | movFromM (dst : Reg) : Form (.movFromM dst)
  | movToM (src : Reg) : Form (.movToM src)
  | mvi (dst : Reg) (v : Byte) : Form (.mvi dst v)
  | mviM (v : Byte) : Form (.mviM v)
  | staxB : Form .staxB
  | staxD : Form .staxD
  | ldaxB : Form .ldaxB
  | ldaxD : Form .ldaxD
  | sta (adr : Word) : Form (.sta adr)
  | lda (adr : Word) : Form (.lda adr)
  | sphl : Form .sphl
  | lxi (p : Pair) (v : Word) : Form (.lxi p v)
  | shld (adr : Word) : Form (.shld adr)
  | lhld (adr : Word) : Form (.lhld adr)
  | push (p : RegPair) : Form (.push p)
  | pop (p : RegPair) : Form (.pop p)
  | pushPSW : Form .pushPSW
  | popPSW : Form .popPSW
  | inN (n : Byte) : Form (.inN n)
  | outN (n : Byte) : Form (.outN n)
  | xchg : Form .xchg
  | xthl : Form .xthl
  | cmc : Form .cmc
  | stc : Form .stc
  | cma : Form .cma
  | daa : Form .daa
  | inr (o : Operand8) : Form (.inr o)
  | dcr (o : Operand8) : Form (.dcr o)
  | inx (p : Pair) : Form (.inx p)
  | dcx (p : Pair) : Form (.dcx p)
  | alu (op : AluOp) (o : Operand8) : Form (.alu op o)
  | aluImm (op : AluOp) (v : Byte) : Form (.aluImm op v)
  | dad (p : Pair) : Form (.dad p)
  | rlc : Form .rlc
  | rrc : Form .rrc
  | ral : Form .ral
  | rar : Form .rar
  | jmp (adr : Word) : Form (.jmp adr)
  | pchl : Form .pchl
  | call (adr : Word) : Form (.call adr)
  | ret : Form .ret
  | jumpCond (cond : Cond) (adr : Word) : Form (.jumpCond cond adr)
  | callCond (cond : Cond) (adr : Word) : Form (.callCond cond adr)
  | retCond (cond : Cond) : Form (.retCond cond)
  | rst (n : Fin 8) : Form (.rst n)
  | nop : Form .nop
  | hlt : Form .hlt
  | ei : Form .ei
  | di : Form .di
  | unused (i : Instr) (code : Byte) (documented : State → State)
      (run : ∀ s, exec i s = unusedCode code documented s) (ill : i.wellFormed = false)
      (one : documented = (fun s => s) ∨ (∃ adr, documented = jumpTo adr) ∨ (∃ adr, documented = callTo adr) ∨
        documented = returnFrom) : Form i

/-- Every constructor is of one of the forms. -/
theorem form (i : Instr) : Form i := by
  cases i with
  | nop => exact .nop
  | lxiB d16 => exact .lxi (.rp .bc) d16
  | staxB => exact .staxB
  | inxB => exact .inx (.rp .bc)
  | inrB => exact .inr (.reg .b)
  | dcrB => exact .dcr (.reg .b)
  | mviB d8 => exact .mvi .b d8
  | rlc => exact .rlc
  | unused08 => exact .unused _ 0x08 _ (fun _ => rfl) rfl (.inl rfl)
  | dadB => exact .dad (.rp .bc)
  | ldaxB => exact .ldaxB
  | dcxB => exact .dcx (.rp .bc)
  | inrC => exact .inr (.reg .c)
  | dcrC => exact .dcr (.reg .c)
  | mviC d8 => exact .mvi .c d8
  | rrc => exact .rrc
  | unused10 => exact .unused _ 0x10 _ (fun _ => rfl) rfl (.inl rfl)
  | lxiD d16 => exact .lxi (.rp .de) d16
  | staxD => exact .staxD
  | inxD => exact .inx (.rp .de)
  | inrD => exact .inr (.reg .d)
  | dcrD => exact .dcr (.reg .d)
  | mviD d8 => exact .mvi .d d8
  | ral => exact .ral
  | unused18 => exact .unused _ 0x18 _ (fun _ => rfl) rfl (.inl rfl)
  | dadD => exact .dad (.rp .de)
  | ldaxD => exact .ldaxD
  | dcxD => exact .dcx (.rp .de)
  | inrE => exact .inr (.reg .e)
  | dcrE => exact .dcr (.reg .e)
  | mviE d8 => exact .mvi .e d8
  | rar => exact .rar
  | unused20 => exact .unused _ 0x20 _ (fun _ => rfl) rfl (.inl rfl)
  | lxiH d16 => exact .lxi (.rp .hl) d16
  | shld adr => exact .shld adr
  | inxH => exact .inx (.rp .hl)
  | inrH => exact .inr (.reg .h)
  | dcrH => exact .dcr (.reg .h)
  | mviH d8 => exact .mvi .h d8
  | daa => exact .daa
  | unused28 => exact .unused _ 0x28 _ (fun _ => rfl) rfl (.inl rfl)
  | dadH => exact .dad (.rp .hl)
  | lhld adr => exact .lhld adr
  | dcxH => exact .dcx (.rp .hl)
  | inrL => exact .inr (.reg .l)
  | dcrL => exact .dcr (.reg .l)
  | mviL d8 => exact .mvi .l d8
  | cma => exact .cma
  | unused30 => exact .unused _ 0x30 _ (fun _ => rfl) rfl (.inl rfl)
  | lxiSP d16 => exact .lxi .sp d16
  | sta adr => exact .sta adr
  | inxSP => exact .inx .sp
  | inrM => exact .inr .m
  | dcrM => exact .dcr .m
  | mviM d8 => exact .mviM d8
  | stc => exact .stc
  | unused38 => exact .unused _ 0x38 _ (fun _ => rfl) rfl (.inl rfl)
  | dadSP => exact .dad .sp
  | lda adr => exact .lda adr
  | dcxSP => exact .dcx .sp
  | inrA => exact .inr (.reg .a)
  | dcrA => exact .dcr (.reg .a)
  | mviA d8 => exact .mvi .a d8
  | cmc => exact .cmc
  | movBB => exact .mov .b .b
  | movBC => exact .mov .b .c
  | movBD => exact .mov .b .d
  | movBE => exact .mov .b .e
  | movBH => exact .mov .b .h
  | movBL => exact .mov .b .l
  | movBM => exact .movFromM .b
  | movBA => exact .mov .b .a
  | movCB => exact .mov .c .b
  | movCC => exact .mov .c .c
  | movCD => exact .mov .c .d
  | movCE => exact .mov .c .e
  | movCH => exact .mov .c .h
  | movCL => exact .mov .c .l
  | movCM => exact .movFromM .c
  | movCA => exact .mov .c .a
  | movDB => exact .mov .d .b
  | movDC => exact .mov .d .c
  | movDD => exact .mov .d .d
  | movDE => exact .mov .d .e
  | movDH => exact .mov .d .h
  | movDL => exact .mov .d .l
  | movDM => exact .movFromM .d
  | movDA => exact .mov .d .a
  | movEB => exact .mov .e .b
  | movEC => exact .mov .e .c
  | movED => exact .mov .e .d
  | movEE => exact .mov .e .e
  | movEH => exact .mov .e .h
  | movEL => exact .mov .e .l
  | movEM => exact .movFromM .e
  | movEA => exact .mov .e .a
  | movHB => exact .mov .h .b
  | movHC => exact .mov .h .c
  | movHD => exact .mov .h .d
  | movHE => exact .mov .h .e
  | movHH => exact .mov .h .h
  | movHL => exact .mov .h .l
  | movHM => exact .movFromM .h
  | movHA => exact .mov .h .a
  | movLB => exact .mov .l .b
  | movLC => exact .mov .l .c
  | movLD => exact .mov .l .d
  | movLE => exact .mov .l .e
  | movLH => exact .mov .l .h
  | movLL => exact .mov .l .l
  | movLM => exact .movFromM .l
  | movLA => exact .mov .l .a
  | movMB => exact .movToM .b
  | movMC => exact .movToM .c
  | movMD => exact .movToM .d
  | movME => exact .movToM .e
  | movMH => exact .movToM .h
  | movML => exact .movToM .l
  | hlt => exact .hlt
  | movMA => exact .movToM .a
  | movAB => exact .mov .a .b
  | movAC => exact .mov .a .c
  | movAD => exact .mov .a .d
  | movAE => exact .mov .a .e
  | movAH => exact .mov .a .h
  | movAL => exact .mov .a .l
  | movAM => exact .movFromM .a
  | movAA => exact .mov .a .a
  | addB => exact .alu .add (.reg .b)
  | addC => exact .alu .add (.reg .c)
  | addD => exact .alu .add (.reg .d)
  | addE => exact .alu .add (.reg .e)
  | addH => exact .alu .add (.reg .h)
  | addL => exact .alu .add (.reg .l)
  | addM => exact .alu .add .m
  | addA => exact .alu .add (.reg .a)
  | adcB => exact .alu .adc (.reg .b)
  | adcC => exact .alu .adc (.reg .c)
  | adcD => exact .alu .adc (.reg .d)
  | adcE => exact .alu .adc (.reg .e)
  | adcH => exact .alu .adc (.reg .h)
  | adcL => exact .alu .adc (.reg .l)
  | adcM => exact .alu .adc .m
  | adcA => exact .alu .adc (.reg .a)
  | subB => exact .alu .sub (.reg .b)
  | subC => exact .alu .sub (.reg .c)
  | subD => exact .alu .sub (.reg .d)
  | subE => exact .alu .sub (.reg .e)
  | subH => exact .alu .sub (.reg .h)
  | subL => exact .alu .sub (.reg .l)
  | subM => exact .alu .sub .m
  | subA => exact .alu .sub (.reg .a)
  | sbbB => exact .alu .sbb (.reg .b)
  | sbbC => exact .alu .sbb (.reg .c)
  | sbbD => exact .alu .sbb (.reg .d)
  | sbbE => exact .alu .sbb (.reg .e)
  | sbbH => exact .alu .sbb (.reg .h)
  | sbbL => exact .alu .sbb (.reg .l)
  | sbbM => exact .alu .sbb .m
  | sbbA => exact .alu .sbb (.reg .a)
  | anaB => exact .alu .ana (.reg .b)
  | anaC => exact .alu .ana (.reg .c)
  | anaD => exact .alu .ana (.reg .d)
  | anaE => exact .alu .ana (.reg .e)
  | anaH => exact .alu .ana (.reg .h)
  | anaL => exact .alu .ana (.reg .l)
  | anaM => exact .alu .ana .m
  | anaA => exact .alu .ana (.reg .a)
  | xraB => exact .alu .xra (.reg .b)
  | xraC => exact .alu .xra (.reg .c)
  | xraD => exact .alu .xra (.reg .d)
  | xraE => exact .alu .xra (.reg .e)
  | xraH => exact .alu .xra (.reg .h)
  | xraL => exact .alu .xra (.reg .l)
  | xraM => exact .alu .xra .m
  | xraA => exact .alu .xra (.reg .a)
  | oraB => exact .alu .ora (.reg .b)
  | oraC => exact .alu .ora (.reg .c)
  | oraD => exact .alu .ora (.reg .d)
  | oraE => exact .alu .ora (.reg .e)
  | oraH => exact .alu .ora (.reg .h)
  | oraL => exact .alu .ora (.reg .l)
  | oraM => exact .alu .ora .m
  | oraA => exact .alu .ora (.reg .a)
  | cmpB => exact .alu .cmp (.reg .b)
  | cmpC => exact .alu .cmp (.reg .c)
  | cmpD => exact .alu .cmp (.reg .d)
  | cmpE => exact .alu .cmp (.reg .e)
  | cmpH => exact .alu .cmp (.reg .h)
  | cmpL => exact .alu .cmp (.reg .l)
  | cmpM => exact .alu .cmp .m
  | cmpA => exact .alu .cmp (.reg .a)
  | rnz => exact .retCond .nz
  | popB => exact .pop .bc
  | jnz adr => exact .jumpCond .nz adr
  | jmp adr => exact .jmp adr
  | cnz adr => exact .callCond .nz adr
  | pushB => exact .push .bc
  | adi d8 => exact .aluImm .add d8
  | rst0 => exact .rst 0
  | rz => exact .retCond .z
  | ret => exact .ret
  | jz adr => exact .jumpCond .z adr
  | unusedCB adr => exact .unused _ 0xCB _ (fun _ => rfl) rfl (.inr (.inl ⟨_, rfl⟩))
  | cz adr => exact .callCond .z adr
  | call adr => exact .call adr
  | aci d8 => exact .aluImm .adc d8
  | rst1 => exact .rst 1
  | rnc => exact .retCond .nc
  | popD => exact .pop .de
  | jnc adr => exact .jumpCond .nc adr
  | outN n => exact .outN n
  | cnc adr => exact .callCond .nc adr
  | pushD => exact .push .de
  | sui d8 => exact .aluImm .sub d8
  | rst2 => exact .rst 2
  | rc => exact .retCond .c
  | unusedD9 => exact .unused _ 0xD9 _ (fun _ => rfl) rfl (.inr (.inr (.inr rfl)))
  | jc adr => exact .jumpCond .c adr
  | inN n => exact .inN n
  | cc adr => exact .callCond .c adr
  | unusedDD adr => exact .unused _ 0xDD _ (fun _ => rfl) rfl (.inr (.inr (.inl ⟨_, rfl⟩)))
  | sbi d8 => exact .aluImm .sbb d8
  | rst3 => exact .rst 3
  | rpo => exact .retCond .po
  | popH => exact .pop .hl
  | jpo adr => exact .jumpCond .po adr
  | xthl => exact .xthl
  | cpo adr => exact .callCond .po adr
  | pushH => exact .push .hl
  | ani d8 => exact .aluImm .ana d8
  | rst4 => exact .rst 4
  | rpe => exact .retCond .pe
  | pchl => exact .pchl
  | jpe adr => exact .jumpCond .pe adr
  | xchg => exact .xchg
  | cpe adr => exact .callCond .pe adr
  | unusedED adr => exact .unused _ 0xED _ (fun _ => rfl) rfl (.inr (.inr (.inl ⟨_, rfl⟩)))
  | xri d8 => exact .aluImm .xra d8
  | rst5 => exact .rst 5
  | rp => exact .retCond .p
  | popPSW => exact .popPSW
  | jp adr => exact .jumpCond .p adr
  | di => exact .di
  | cp adr => exact .callCond .p adr
  | pushPSW => exact .pushPSW
  | ori d8 => exact .aluImm .ora d8
  | rst6 => exact .rst 6
  | rm => exact .retCond .m
  | sphl => exact .sphl
  | jm adr => exact .jumpCond .m adr
  | ei => exact .ei
  | cm adr => exact .callCond .m adr
  | unusedFD adr => exact .unused _ 0xFD _ (fun _ => rfl) rfl (.inr (.inr (.inl ⟨_, rfl⟩)))
  | cpi d8 => exact .aluImm .cmp d8
  | rst7 => exact .rst 7

end Sys2Proof.Machine
end

