-- ==== Sys2Proof/Laws/Uses.lean ====
section
/-! SUPPORT. The check of R351, said once: which items are marked, when an operation passes, what it answers; and
`uses` of each group of like instructions as one equation. -/

namespace Sys2Proof.Machine

/-- Every item is in the list of all items. -/
theorem mem_allItems (x : Item) : x ∈ allItems := by
  rcases x with r | f | _
  · cases r <;> decide
  · cases f <;> decide
  · decide

/-- An item is marked when it was marked before or is among the new ones. -/
@[simp] theorem mem_markItems (ws : List Item) (s : State) (x : Item) :
    x ∈ (markItems ws s).written ↔ x ∈ s.written ∨ x ∈ ws := by
  simp [markItems, mem_allItems]

@[simp] theorem getReg_markItems (r : Reg) (ws : List Item) (s : State) :
    getReg r (markItems ws s) = getReg r s := by cases r <;> rfl

@[simp] theorem itemValue_markItems (x : Item) (ws : List Item) (s : State) :
    itemValue x (markItems ws s) = itemValue x s := by cases x <;> simp [itemValue]

/-- Reading passes exactly when `MayRead` says so. -/
theorem firstUnwritten_eq_none (reads : List Item) (s : State) :
    firstUnwritten reads s = none ↔ MayRead reads s := by
  unfold firstUnwritten MayRead
  cases s.params.resetUnspecified <;> simp

/-- What is reported is read and was never written, under `fault_on_read`. -/
theorem firstUnwritten_eq_some (reads : List Item) (s : State) (x : Item) (h : firstUnwritten reads s = some x) :
    s.params.resetUnspecified = .faultOnRead ∧ x ∈ reads ∧ x ∉ s.written := by
  unfold firstUnwritten at h
  split at h
  · cases h
  · rename_i e
    exact ⟨e, List.mem_of_find?_eq_some h, by simpa using List.find?_some h⟩

/-- An operation whose reads have been written answers what it would without the check, with its writes marked. -/
theorem checked_pass (u : Uses) (s : State) (o : Result) (h : MayRead u.reads s) : checked u s o =
    match o with
    | .next t => .next (markItems u.writes t)
    | .fault r => .fault r
    | .refused r => .refused r := by
  cases o <;> simp [checked, (firstUnwritten_eq_none _ _).mpr h]

/-- An operation one of whose reads was never written answers the fault for such an item. -/
theorem checked_stop (u : Uses) (s : State) (o : Result) (h : ¬ MayRead u.reads s) :
    ∃ x ∈ u.reads, x ∉ s.written ∧ checked u s o = .fault (.unwrittenRead x s) := by
  rw [← firstUnwritten_eq_none] at h
  obtain ⟨x, e⟩ := Option.ne_none_iff_exists'.mp h
  obtain ⟨_, hx, hn⟩ := firstUnwritten_eq_some _ _ _ e
  exact ⟨x, hx, hn, by simp [checked, e]⟩

/-- A checked operation answers a next state exactly when it would without the check and its reads have been
written. -/
theorem checked_eq_next (u : Uses) (s t : State) (o : Result) : checked u s o = .next t ↔
    MayRead u.reads s ∧ ∃ v, o = .next v ∧ t = markItems u.writes v := by
  by_cases h : MayRead u.reads s
  · rw [checked_pass u s o h]
    cases o with
    | next v => simp [h, eq_comm]
    | fault r => simp
    | refused r => simp
  · obtain ⟨x, _, _, e⟩ := checked_stop u s o h
    rw [e]
    simp [h]

/-! ## `uses` by groups -/

@[simp] theorem uses_mov (dst src : Reg) (s : State) : uses (.mov dst src) s = movUses dst src := by
  cases dst <;> cases src <;> rfl

@[simp] theorem uses_movFromM (dst : Reg) (s : State) :
    uses (.movFromM dst) s = { reads := [.reg .h, .reg .l], writes := [.reg dst] } := by cases dst <;> rfl

@[simp] theorem uses_movToM (src : Reg) (s : State) :
    uses (.movToM src) s = { reads := [.reg src, .reg .h, .reg .l], writes := [] } := by cases src <;> rfl

@[simp] theorem uses_mvi (dst : Reg) (v : Byte) (s : State) :
    uses (.mvi dst v) s = { reads := [], writes := [.reg dst] } := by cases dst <;> rfl

@[simp] theorem uses_lxi (p : Pair) (v : Word) (s : State) :
    uses (.lxi p v) s = { reads := [], writes := pairItems p } := by rcases p with (_ | _ | _) | _ <;> rfl

@[simp] theorem uses_push (p : RegPair) (s : State) : uses (.push p) s = pushUses (regPairItems p) := by
  cases p <;> rfl

@[simp] theorem uses_pop (p : RegPair) (s : State) : uses (.pop p) s = popUses (regPairItems p) := by
  cases p <;> rfl

@[simp] theorem uses_inr (o : Operand8) (s : State) : uses (.inr o) s = countUses o := by
  rcases o with (_ | _ | _ | _ | _ | _ | _) | _ <;> rfl

@[simp] theorem uses_dcr (o : Operand8) (s : State) : uses (.dcr o) s = countUses o := by
  rcases o with (_ | _ | _ | _ | _ | _ | _) | _ <;> rfl

@[simp] theorem uses_inx (p : Pair) (s : State) : uses (.inx p) s = stepPairUses p := by
  rcases p with (_ | _ | _) | _ <;> rfl

@[simp] theorem uses_dcx (p : Pair) (s : State) : uses (.dcx p) s = stepPairUses p := by
  rcases p with (_ | _ | _) | _ <;> rfl

@[simp] theorem uses_alu (op : AluOp) (o : Operand8) (s : State) : uses (.alu op o) s = aluUses op o := by
  cases op <;> rcases o with (_ | _ | _ | _ | _ | _ | _) | _ <;> rfl

@[simp] theorem uses_aluImm (op : AluOp) (v : Byte) (s : State) : uses (.aluImm op v) s = aluByteUses op := by
  cases op <;> rfl

@[simp] theorem uses_dad (p : Pair) (s : State) : uses (.dad p) s = dadUses p := by
  rcases p with (_ | _ | _) | _ <;> rfl

@[simp] theorem uses_jumpCond (cond : Cond) (adr : Word) (s : State) :
    uses (.jumpCond cond adr) s = jumpIfUses cond := by cases cond <;> rfl

@[simp] theorem uses_callCond (cond : Cond) (adr : Word) (s : State) :
    uses (.callCond cond adr) s = stackIfUses cond s := by cases cond <;> rfl

@[simp] theorem uses_retCond (cond : Cond) (s : State) : uses (.retCond cond) s = stackIfUses cond s := by
  cases cond <;> rfl

@[simp] theorem uses_rst (n : Fin 8) (s : State) : uses (.rst n) s = stackUses := by
  fin_cases n <;> rfl

@[simp] theorem uses_mviM (v : Byte) (s : State) :
    uses (.mviM v) s = { reads := [.reg .h, .reg .l], writes := [] } := rfl
@[simp] theorem uses_staxB (s : State) : uses .staxB s = { reads := [.reg .a, .reg .b, .reg .c], writes := [] } := rfl
@[simp] theorem uses_staxD (s : State) : uses .staxD s = { reads := [.reg .a, .reg .d, .reg .e], writes := [] } := rfl
@[simp] theorem uses_ldaxB (s : State) : uses .ldaxB s = { reads := [.reg .b, .reg .c], writes := [.reg .a] } := rfl
@[simp] theorem uses_ldaxD (s : State) : uses .ldaxD s = { reads := [.reg .d, .reg .e], writes := [.reg .a] } := rfl
@[simp] theorem uses_sta (adr : Word) (s : State) : uses (.sta adr) s = { reads := [.reg .a], writes := [] } := rfl
@[simp] theorem uses_lda (adr : Word) (s : State) : uses (.lda adr) s = { reads := [], writes := [.reg .a] } := rfl
@[simp] theorem uses_sphl (s : State) : uses .sphl s = { reads := [.reg .h, .reg .l], writes := [.sp] } := rfl
@[simp] theorem uses_shld (adr : Word) (s : State) :
    uses (.shld adr) s = { reads := [.reg .h, .reg .l], writes := [] } := rfl
@[simp] theorem uses_lhld (adr : Word) (s : State) :
    uses (.lhld adr) s = { reads := [], writes := [.reg .h, .reg .l] } := rfl
@[simp] theorem uses_inN (n : Byte) (s : State) : uses (.inN n) s = { reads := [], writes := [.reg .a] } := rfl
@[simp] theorem uses_outN (n : Byte) (s : State) : uses (.outN n) s = { reads := [.reg .a], writes := [] } := rfl
@[simp] theorem uses_xchg (s : State) :
    uses .xchg s = { reads := [.reg .d, .reg .e, .reg .h, .reg .l], writes := [.reg .d, .reg .e, .reg .h, .reg .l] } := rfl
@[simp] theorem uses_xthl (s : State) :
    uses .xthl s = { reads := [.reg .h, .reg .l, .sp], writes := [.reg .h, .reg .l] } := rfl
@[simp] theorem uses_cmc (s : State) : uses .cmc s = { reads := [.flag .cy], writes := [.flag .cy] } := rfl
@[simp] theorem uses_stc (s : State) : uses .stc s = { reads := [], writes := [.flag .cy] } := rfl
@[simp] theorem uses_cma (s : State) : uses .cma s = { reads := [.reg .a], writes := [.reg .a] } := rfl
@[simp] theorem uses_daa (s : State) :
    uses .daa s = { reads := [.reg .a, .flag .cy, .flag .ac], writes := .reg .a :: flagItems } := rfl
@[simp] theorem uses_rlc (s : State) : uses .rlc s = { reads := [.reg .a], writes := [.reg .a, .flag .cy] } := rfl
@[simp] theorem uses_rrc (s : State) : uses .rrc s = { reads := [.reg .a], writes := [.reg .a, .flag .cy] } := rfl
@[simp] theorem uses_ral (s : State) :
    uses .ral s = { reads := [.reg .a, .flag .cy], writes := [.reg .a, .flag .cy] } := rfl
@[simp] theorem uses_rar (s : State) :
    uses .rar s = { reads := [.reg .a, .flag .cy], writes := [.reg .a, .flag .cy] } := rfl
@[simp] theorem uses_pchl (s : State) : uses .pchl s = { reads := [.reg .h, .reg .l], writes := [] } := rfl
@[simp] theorem uses_pushPSW (s : State) : uses .pushPSW s = pushUses (.reg .a :: flagItems) := rfl
@[simp] theorem uses_popPSW (s : State) : uses .popPSW s = popUses (.reg .a :: flagItems) := rfl
@[simp] theorem uses_jmp (adr : Word) (s : State) : uses (.jmp adr) s = noUses := rfl
@[simp] theorem uses_call (adr : Word) (s : State) : uses (.call adr) s = stackUses := rfl
@[simp] theorem uses_ret (s : State) : uses .ret s = stackUses := rfl
@[simp] theorem uses_nop (s : State) : uses .nop s = noUses := rfl
@[simp] theorem uses_hlt (s : State) : uses .hlt s = noUses := rfl
@[simp] theorem uses_ei (s : State) : uses .ei s = noUses := rfl
@[simp] theorem uses_di (s : State) : uses .di s = noUses := rfl

/-- What an instruction uses depends on the flags and the parameters only. -/
theorem uses_congr (i : Instr) (s t : State) (hf : t.f = s.f) (hp : t.params = s.params) : uses i t = uses i s := by
  cases i <;> first | rfl | simp [uses, stackIfUses, unusedUses, hf, hp]

end Sys2Proof.Machine
end

