-- ==== Sys2Proof/Laws/Step.lean ====
section
/-! SUPPORT. What one step can do, said once: the four ways a step answers a next state, and what the boundary and
step (5) do. -/

namespace Sys2Proof.Machine

@[simp] theorem finishStep_next (i : Instr) (t : State) :
    finishStep i (.next t) = .next (if isEnableInterrupts i then t else { t with eiDelay := false }) := rfl

@[simp] theorem finishStep_fault (i : Instr) (r : Fault) : finishStep i (.fault r) = .fault r := rfl

@[simp] theorem finishStep_refused (i : Instr) (r : Refusal) : finishStep i (.refused r) = .refused r := rfl

/-- `isEnableInterrupts` finds EI and no other instruction. -/
theorem isEnableInterrupts_iff (i : Instr) : isEnableInterrupts i = true ↔ i = .ei := by
  constructor
  · intro h
    unfold isEnableInterrupts at h
    split at h
    · rfl
    · cases h
  · rintro rfl
    rfl

/-- Step (5) answers a next state exactly when the instruction did. -/
theorem finishStep_eq_next (i : Instr) (o : Result) (t : State) : finishStep i o = .next t ↔
    ∃ u, o = .next u ∧ t = if isEnableInterrupts i then u else { u with eiDelay := false } := by
  cases o with
  | next u =>
    constructor
    · intro h
      exact ⟨u, rfl, (Host.Outcome.next.inj h).symm⟩
    · rintro ⟨v, hv, rfl⟩
      cases hv
      rfl
  | fault r => simp
  | refused r => simp

/-- The boundary of a state whose reset is applied. -/
theorem atBoundary_reset (s : State) (h : (currentInput s).reset = true) :
    atBoundary s = .settled (.next (applyReset (afterInput s))) := by
  simp [atBoundary, h]

/-- The boundary of a state whose request is accepted. -/
theorem atBoundary_accept (s : State) (bytes : List Byte) (h : (currentInput s).reset = false)
    (hr : (currentInput s).request = some bytes) (ha : acceptsRequest s = true) :
    atBoundary s = .settled (takeInterrupt bytes (afterInput s)) := by
  have : acceptsRequest (afterInput s) = true := ha
  simp [atBoundary, h, hr, this]

/-- The boundary of a state at which neither a reset nor an accepted request happens. -/
theorem atBoundary_go (s : State) (h : (currentInput s).reset = false)
    (hr : (currentInput s).request = none ∨ acceptsRequest s = false) :
    atBoundary s = continueRun (afterInput s) := by
  unfold atBoundary
  simp only [h, Bool.false_eq_true, if_false]
  cases hq : (currentInput s).request with
  | none => rfl
  | some bytes =>
    have ha : acceptsRequest (afterInput s) = false := by
      rcases hr with e | e
      · rw [hq] at e
        cases e
      · exact e
    simp [ha]

/-- A step at which neither a reset nor an accepted request happens, out of the stop state. -/
theorem step_execute (s : State) (h : (currentInput s).reset = false)
    (hr : (currentInput s).request = none ∨ acceptsRequest s = false) (hh : s.halted = false) :
    step s = finishStep (fetchInstr (afterInput s)).1
      (checked (uses (fetchInstr (afterInput s)).1 (fetchInstr (afterInput s)).2) (fetchInstr (afterInput s)).2
        (exec (fetchInstr (afterInput s)).1 (fetchInstr (afterInput s)).2)) := by
  have e : atBoundary s = .execute (afterInput s) := by
    rw [atBoundary_go s h hr, continueRun, afterInput_halted, hh]
    rfl
  unfold step
  rw [e]

/-- Entry answers a next state only for RST n or a CALL, and marks SP. -/
theorem takeInterrupt_eq_next (bytes : List Byte) (s t : State) (h : takeInterrupt bytes s = .next t) :
    ∃ target, readSupplied s.params.undefOpcode bytes = .call target ∧ MayRead [.sp] s ∧
      t = markItems [.sp] (enterInterrupt target s) := by
  unfold takeInterrupt at h
  split at h
  · rename_i target e
    obtain ⟨hm, v, hv, rfl⟩ := (checked_eq_next _ _ _ _).mp h
    cases hv
    exact ⟨target, e, hm, rfl⟩
  all_goals cases h

/-- The four ways a step answers a next state: reset, interrupt entry, waiting in the stop state, an instruction
(R325). -/
theorem step_cases (s t : State) (h : step s = .next t) :
    ((currentInput s).reset = true ∧ t = applyReset (afterInput s)) ∨
    ((currentInput s).reset = false ∧ acceptsRequest s = true ∧ ∃ bytes target,
      (currentInput s).request = some bytes ∧ readSupplied s.params.undefOpcode bytes = .call target ∧
      MayRead [.sp] s ∧ t = markItems [.sp] (enterInterrupt target (afterInput s))) ∨
    ((currentInput s).reset = false ∧ ((currentInput s).request = none ∨ acceptsRequest s = false) ∧
      s.halted = true ∧ t = afterInput s) ∨
    ((currentInput s).reset = false ∧ ((currentInput s).request = none ∨ acceptsRequest s = false) ∧
      s.halted = false ∧ ∃ u, exec (fetchInstr (afterInput s)).1 (fetchInstr (afterInput s)).2 = .next u ∧
      MayRead (uses (fetchInstr (afterInput s)).1 (fetchInstr (afterInput s)).2).reads (fetchInstr (afterInput s)).2 ∧
      t = markItems (uses (fetchInstr (afterInput s)).1 (fetchInstr (afterInput s)).2).writes
        (if isEnableInterrupts (fetchInstr (afterInput s)).1 then u else { u with eiDelay := false })) := by
  cases hreset : (currentInput s).reset with
  | true =>
    refine .inl ⟨rfl, ?_⟩
    unfold step at h
    rw [atBoundary_reset s hreset] at h
    exact (Host.Outcome.next.inj h).symm
  | false =>
    refine .inr ?_
    by_cases hgo : (currentInput s).request = none ∨ acceptsRequest s = false
    · refine .inr ?_
      cases hh : s.halted with
      | true =>
        refine .inl ⟨rfl, hgo, rfl, ?_⟩
        unfold step at h
        rw [atBoundary_go s hreset hgo, continueRun, afterInput_halted, hh] at h
        exact (Host.Outcome.next.inj h).symm
      | false =>
        refine .inr ⟨rfl, hgo, rfl, ?_⟩
        rw [step_execute s hreset hgo hh] at h
        obtain ⟨w, hw, rfl⟩ := (finishStep_eq_next _ _ _).mp h
        obtain ⟨hm, u, hu, rfl⟩ := (checked_eq_next _ _ _ _).mp hw
        refine ⟨u, hu, hm, ?_⟩
        split <;> rfl
    · refine .inl ?_
      rw [not_or] at hgo
      have ha : acceptsRequest s = true := by simpa using hgo.2
      obtain ⟨bytes, hb⟩ := Option.ne_none_iff_exists'.mp hgo.1
      unfold step at h
      rw [atBoundary_accept s bytes hreset hb ha] at h
      obtain ⟨target, e, hm, rfl⟩ := takeInterrupt_eq_next _ _ _ h
      exact ⟨rfl, ha, bytes, target, hb, e, hm, rfl⟩

/-! ## Interrupt entry -/

@[simp] theorem enterInterrupt_pc (w : Word) (s : State) : (enterInterrupt w s).pc = w := rfl
@[simp] theorem enterInterrupt_inte (w : Word) (s : State) : (enterInterrupt w s).inte = false := by
  simp [enterInterrupt]
@[simp] theorem enterInterrupt_halted (w : Word) (s : State) : (enterInterrupt w s).halted = false := by
  simp [enterInterrupt]
@[simp] theorem enterInterrupt_eiDelay (w : Word) (s : State) : (enterInterrupt w s).eiDelay = false := rfl
@[simp] theorem enterInterrupt_inputs (w : Word) (s : State) : (enterInterrupt w s).inputs = s.inputs := by
  simp [enterInterrupt]
@[simp] theorem enterInterrupt_params (w : Word) (s : State) : (enterInterrupt w s).params = s.params := by
  simp [enterInterrupt]
@[simp] theorem enterInterrupt_written (w : Word) (s : State) : (enterInterrupt w s).written = s.written := by
  simp [enterInterrupt]

/-- The call at the entry does what `Calls` says (R322). -/
theorem calls_enterInterrupt (w : Word) (s : State) : Calls w s (enterInterrupt w s) := by
  have h := calls_callTo w (beginEntry s)
  exact ⟨h.1, h.2.1, h.2.2.1, fun r => by have := h.2.2.2.1 r; cases r <;> exact this, h.2.2.2.2⟩

/-- The entry keeps the canonical form of memory. -/
theorem wf_enterInterrupt (w : Word) (s : State) (h : s.mem.wf) : (enterInterrupt w s).mem.wf :=
  wf_push16 s.pc (beginEntry s) h

end Sys2Proof.Machine
end

