-- ==== Sys2Proof/Tests/Slice0.lean ====
section
/-! SUPPORT. The model's own tests: ill-formed terms refused, every code decoded, one step per instruction form, the
boundary, and for each statement with hypotheses a state and operands that meet them. -/

namespace Sys2Proof.Tests

open Sys2Proof Sys2Proof.Machine

/-! ## WellFormed: each check accepts what the spec has and refuses what it has not -/

theorem test_wellFormed_accepts_used : Instr.wellFormed .oraC = true := by decide
theorem test_wellFormed_refuses_unused : ([.unused08, .unused10, .unused18, .unused20, .unused28, .unused30, .unused38,
    .unusedCB 0, .unusedD9, .unusedDD 0, .unusedED 0, .unusedFD 0] : List Instr).all (fun i => !i.wellFormed) = true := by
  decide

/-- RST 7 and a complete CALL; not a CALL without its address, a JMP, a NOP, or nothing (R322). -/
theorem test_supplied_accepts : suppliedWellFormed [0xFF] = true ∧ suppliedWellFormed [0xCD, 0x34, 0x12] = true := by
  decide
theorem test_supplied_refuses : ([[], [0x00], [0xCD], [0xCD, 0x34], [0xC3, 0x34, 0x12]] : List (List Byte)).all
    (fun l => !suppliedWellFormed l) = true := by decide

/-- A region up to the last address; not one past it (R60). -/
theorem test_region_accepts_top : Region.wellFormed { base := 0xFF00, size := 0x100, kind := .rom } = true := by decide
theorem test_region_refuses_past_top : Region.wellFormed { base := 0xFF00, size := 0x101, kind := .rom } = false := by
  decide
theorem test_params_refuses_bad_region : Params.wellFormed
    { Params.default with memMap := [{ base := 0x10000, size := 1, kind := .device }] } = false := by decide

/-! ## Decode: every code, written bit by bit in the fields of R94 to R98, with the operand bytes 34 12 where it has
them (low byte first, R68) -/

/-- Whether bytes decode to an instruction and to nothing behind it. -/
def decodesTo (x : List Byte × Instr) : Bool :=
  match decode x.1 with
  | .ok (i, []) => i == x.2
  | .ok (_, _ :: _) => false
  | .error _ => false

theorem test_decode_row0 : ([
    ([0b00_000_000], .nop), ([0b00_000_001, 0x34, 0x12], .lxiB 0x1234), ([0b00_000_010], .staxB),
    ([0b00_000_011], .inxB), ([0b00_000_100], .inrB), ([0b00_000_101], .dcrB), ([0b00_000_110, 0x34], .mviB 0x34),
    ([0b00_000_111], .rlc), ([0b00_001_000], .unused08), ([0b00_001_001], .dadB), ([0b00_001_010], .ldaxB),
    ([0b00_001_011], .dcxB), ([0b00_001_100], .inrC), ([0b00_001_101], .dcrC), ([0b00_001_110, 0x34], .mviC 0x34),
    ([0b00_001_111], .rrc)] : List (List Byte × Instr)).all decodesTo = true := by decide

theorem test_decode_row1 : ([
    ([0b00_010_000], .unused10), ([0b00_010_001, 0x34, 0x12], .lxiD 0x1234), ([0b00_010_010], .staxD),
    ([0b00_010_011], .inxD), ([0b00_010_100], .inrD), ([0b00_010_101], .dcrD), ([0b00_010_110, 0x34], .mviD 0x34),
    ([0b00_010_111], .ral), ([0b00_011_000], .unused18), ([0b00_011_001], .dadD), ([0b00_011_010], .ldaxD),
    ([0b00_011_011], .dcxD), ([0b00_011_100], .inrE), ([0b00_011_101], .dcrE), ([0b00_011_110, 0x34], .mviE 0x34),
    ([0b00_011_111], .rar)] : List (List Byte × Instr)).all decodesTo = true := by decide

theorem test_decode_row2 : ([
    ([0b00_100_000], .unused20), ([0b00_100_001, 0x34, 0x12], .lxiH 0x1234),
    ([0b00_100_010, 0x34, 0x12], .shld 0x1234), ([0b00_100_011], .inxH), ([0b00_100_100], .inrH),
    ([0b00_100_101], .dcrH), ([0b00_100_110, 0x34], .mviH 0x34), ([0b00_100_111], .daa),
    ([0b00_101_000], .unused28), ([0b00_101_001], .dadH), ([0b00_101_010, 0x34, 0x12], .lhld 0x1234),
    ([0b00_101_011], .dcxH), ([0b00_101_100], .inrL), ([0b00_101_101], .dcrL), ([0b00_101_110, 0x34], .mviL 0x34),
    ([0b00_101_111], .cma)] : List (List Byte × Instr)).all decodesTo = true := by decide

theorem test_decode_row3 : ([
    ([0b00_110_000], .unused30), ([0b00_110_001, 0x34, 0x12], .lxiSP 0x1234),
    ([0b00_110_010, 0x34, 0x12], .sta 0x1234), ([0b00_110_011], .inxSP), ([0b00_110_100], .inrM),
    ([0b00_110_101], .dcrM), ([0b00_110_110, 0x34], .mviM 0x34), ([0b00_110_111], .stc),
    ([0b00_111_000], .unused38), ([0b00_111_001], .dadSP), ([0b00_111_010, 0x34, 0x12], .lda 0x1234),
    ([0b00_111_011], .dcxSP), ([0b00_111_100], .inrA), ([0b00_111_101], .dcrA), ([0b00_111_110, 0x34], .mviA 0x34),
    ([0b00_111_111], .cmc)] : List (List Byte × Instr)).all decodesTo = true := by decide

theorem test_decode_row4 : ([
    ([0b01_000_000], .movBB), ([0b01_000_001], .movBC), ([0b01_000_010], .movBD), ([0b01_000_011], .movBE),
    ([0b01_000_100], .movBH), ([0b01_000_101], .movBL), ([0b01_000_110], .movBM), ([0b01_000_111], .movBA),
    ([0b01_001_000], .movCB), ([0b01_001_001], .movCC), ([0b01_001_010], .movCD), ([0b01_001_011], .movCE),
    ([0b01_001_100], .movCH), ([0b01_001_101], .movCL), ([0b01_001_110], .movCM), ([0b01_001_111], .movCA)] : List (List Byte × Instr)).all decodesTo = true := by decide

theorem test_decode_row5 : ([
    ([0b01_010_000], .movDB), ([0b01_010_001], .movDC), ([0b01_010_010], .movDD), ([0b01_010_011], .movDE),
    ([0b01_010_100], .movDH), ([0b01_010_101], .movDL), ([0b01_010_110], .movDM), ([0b01_010_111], .movDA),
    ([0b01_011_000], .movEB), ([0b01_011_001], .movEC), ([0b01_011_010], .movED), ([0b01_011_011], .movEE),
    ([0b01_011_100], .movEH), ([0b01_011_101], .movEL), ([0b01_011_110], .movEM), ([0b01_011_111], .movEA)] : List (List Byte × Instr)).all decodesTo = true := by decide

theorem test_decode_row6 : ([
    ([0b01_100_000], .movHB), ([0b01_100_001], .movHC), ([0b01_100_010], .movHD), ([0b01_100_011], .movHE),
    ([0b01_100_100], .movHH), ([0b01_100_101], .movHL), ([0b01_100_110], .movHM), ([0b01_100_111], .movHA),
    ([0b01_101_000], .movLB), ([0b01_101_001], .movLC), ([0b01_101_010], .movLD), ([0b01_101_011], .movLE),
    ([0b01_101_100], .movLH), ([0b01_101_101], .movLL), ([0b01_101_110], .movLM), ([0b01_101_111], .movLA)] : List (List Byte × Instr)).all decodesTo = true := by decide

theorem test_decode_row7 : ([
    ([0b01_110_000], .movMB), ([0b01_110_001], .movMC), ([0b01_110_010], .movMD), ([0b01_110_011], .movME),
    ([0b01_110_100], .movMH), ([0b01_110_101], .movML), ([0b01_110_110], .hlt), ([0b01_110_111], .movMA),
    ([0b01_111_000], .movAB), ([0b01_111_001], .movAC), ([0b01_111_010], .movAD), ([0b01_111_011], .movAE),
    ([0b01_111_100], .movAH), ([0b01_111_101], .movAL), ([0b01_111_110], .movAM), ([0b01_111_111], .movAA)] : List (List Byte × Instr)).all decodesTo = true := by decide

theorem test_decode_row8 : ([
    ([0b10_000_000], .addB), ([0b10_000_001], .addC), ([0b10_000_010], .addD), ([0b10_000_011], .addE),
    ([0b10_000_100], .addH), ([0b10_000_101], .addL), ([0b10_000_110], .addM), ([0b10_000_111], .addA),
    ([0b10_001_000], .adcB), ([0b10_001_001], .adcC), ([0b10_001_010], .adcD), ([0b10_001_011], .adcE),
    ([0b10_001_100], .adcH), ([0b10_001_101], .adcL), ([0b10_001_110], .adcM), ([0b10_001_111], .adcA)] : List (List Byte × Instr)).all decodesTo = true := by decide

theorem test_decode_row9 : ([
    ([0b10_010_000], .subB), ([0b10_010_001], .subC), ([0b10_010_010], .subD), ([0b10_010_011], .subE),
    ([0b10_010_100], .subH), ([0b10_010_101], .subL), ([0b10_010_110], .subM), ([0b10_010_111], .subA),
    ([0b10_011_000], .sbbB), ([0b10_011_001], .sbbC), ([0b10_011_010], .sbbD), ([0b10_011_011], .sbbE),
    ([0b10_011_100], .sbbH), ([0b10_011_101], .sbbL), ([0b10_011_110], .sbbM), ([0b10_011_111], .sbbA)] : List (List Byte × Instr)).all decodesTo = true := by decide

theorem test_decode_rowA : ([
    ([0b10_100_000], .anaB), ([0b10_100_001], .anaC), ([0b10_100_010], .anaD), ([0b10_100_011], .anaE),
    ([0b10_100_100], .anaH), ([0b10_100_101], .anaL), ([0b10_100_110], .anaM), ([0b10_100_111], .anaA),
    ([0b10_101_000], .xraB), ([0b10_101_001], .xraC), ([0b10_101_010], .xraD), ([0b10_101_011], .xraE),
    ([0b10_101_100], .xraH), ([0b10_101_101], .xraL), ([0b10_101_110], .xraM), ([0b10_101_111], .xraA)] : List (List Byte × Instr)).all decodesTo = true := by decide

theorem test_decode_rowB : ([
    ([0b10_110_000], .oraB), ([0b10_110_001], .oraC), ([0b10_110_010], .oraD), ([0b10_110_011], .oraE),
    ([0b10_110_100], .oraH), ([0b10_110_101], .oraL), ([0b10_110_110], .oraM), ([0b10_110_111], .oraA),
    ([0b10_111_000], .cmpB), ([0b10_111_001], .cmpC), ([0b10_111_010], .cmpD), ([0b10_111_011], .cmpE),
    ([0b10_111_100], .cmpH), ([0b10_111_101], .cmpL), ([0b10_111_110], .cmpM), ([0b10_111_111], .cmpA)] : List (List Byte × Instr)).all decodesTo = true := by decide

theorem test_decode_rowC : ([
    ([0b11_000_000], .rnz), ([0b11_000_001], .popB), ([0b11_000_010, 0x34, 0x12], .jnz 0x1234),
    ([0b11_000_011, 0x34, 0x12], .jmp 0x1234), ([0b11_000_100, 0x34, 0x12], .cnz 0x1234), ([0b11_000_101], .pushB),
    ([0b11_000_110, 0x34], .adi 0x34), ([0b11_000_111], .rst0), ([0b11_001_000], .rz), ([0b11_001_001], .ret),
    ([0b11_001_010, 0x34, 0x12], .jz 0x1234), ([0b11_001_011, 0x34, 0x12], .unusedCB 0x1234),
    ([0b11_001_100, 0x34, 0x12], .cz 0x1234), ([0b11_001_101, 0x34, 0x12], .call 0x1234),
    ([0b11_001_110, 0x34], .aci 0x34), ([0b11_001_111], .rst1)] : List (List Byte × Instr)).all decodesTo = true := by decide

theorem test_decode_rowD : ([
    ([0b11_010_000], .rnc), ([0b11_010_001], .popD), ([0b11_010_010, 0x34, 0x12], .jnc 0x1234),
    ([0b11_010_011, 0x34], .outN 0x34), ([0b11_010_100, 0x34, 0x12], .cnc 0x1234), ([0b11_010_101], .pushD),
    ([0b11_010_110, 0x34], .sui 0x34), ([0b11_010_111], .rst2), ([0b11_011_000], .rc), ([0b11_011_001], .unusedD9),
    ([0b11_011_010, 0x34, 0x12], .jc 0x1234), ([0b11_011_011, 0x34], .inN 0x34),
    ([0b11_011_100, 0x34, 0x12], .cc 0x1234), ([0b11_011_101, 0x34, 0x12], .unusedDD 0x1234),
    ([0b11_011_110, 0x34], .sbi 0x34), ([0b11_011_111], .rst3)] : List (List Byte × Instr)).all decodesTo = true := by decide

theorem test_decode_rowE : ([
    ([0b11_100_000], .rpo), ([0b11_100_001], .popH), ([0b11_100_010, 0x34, 0x12], .jpo 0x1234),
    ([0b11_100_011], .xthl), ([0b11_100_100, 0x34, 0x12], .cpo 0x1234), ([0b11_100_101], .pushH),
    ([0b11_100_110, 0x34], .ani 0x34), ([0b11_100_111], .rst4), ([0b11_101_000], .rpe), ([0b11_101_001], .pchl),
    ([0b11_101_010, 0x34, 0x12], .jpe 0x1234), ([0b11_101_011], .xchg), ([0b11_101_100, 0x34, 0x12], .cpe 0x1234),
    ([0b11_101_101, 0x34, 0x12], .unusedED 0x1234), ([0b11_101_110, 0x34], .xri 0x34), ([0b11_101_111], .rst5)] : List (List Byte × Instr)).all decodesTo = true := by decide

theorem test_decode_rowF : ([
    ([0b11_110_000], .rp), ([0b11_110_001], .popPSW), ([0b11_110_010, 0x34, 0x12], .jp 0x1234),
    ([0b11_110_011], .di), ([0b11_110_100, 0x34, 0x12], .cp 0x1234), ([0b11_110_101], .pushPSW),
    ([0b11_110_110, 0x34], .ori 0x34), ([0b11_110_111], .rst6), ([0b11_111_000], .rm), ([0b11_111_001], .sphl),
    ([0b11_111_010, 0x34, 0x12], .jm 0x1234), ([0b11_111_011], .ei), ([0b11_111_100, 0x34, 0x12], .cm 0x1234),
    ([0b11_111_101, 0x34, 0x12], .unusedFD 0x1234), ([0b11_111_110, 0x34], .cpi 0x34), ([0b11_111_111], .rst7)] : List (List Byte × Instr)).all decodesTo = true := by decide

/-- Bytes that end before the operand bytes are refused by name, and so is no byte at all. -/
theorem test_decode_refuses_truncated : (decode [0b11_000_011, 0x34]).toOption = none ∧
    (decode [0b00_000_110]).toOption = none ∧ (decode []).toOption = none := by decide

/-- Words numbered as the opcode table numbers them: MVI B,D8 with D8 = 34, and JMP with the operand bits absent. -/
theorem test_decodeTableWord : decodeTableWord 16 0x3406 = some (.mviB 0x34) ∧
    decodeTableWord 8 0xC3 = some (.jmp 0x0000) ∧ decodeTableWord 24 0x1234C3 = some (.jmp 0x1234) := by decide

/-! ## One step: rows of 95_test_vectors.md -/

/-- The start state of section 2 of 95_test_vectors.md: everything 0. -/
def clean : State := State.reset

/-- The next state of a step, if it answers one. -/
def nextOf (s : State) : Option State :=
  match step s with
  | .next t => some t
  | .fault _ => none
  | .refused _ => none

/-- The state with bytes placed at an address and PC there. -/
def loaded (at0 : Word) (bytes : List Byte) (s : State) : State := { placeBytes at0 bytes s with pc := at0 }

/-- The state after one step from bytes placed at an address. -/
def after (at0 : Word) (bytes : List Byte) (s : State) : Option State := nextOf (loaded at0 bytes s)

/-- `MOV A,C`, R120: a row of 95_test_vectors.md section 2. -/
theorem test_movAC :
    (after 0x0100 [0x79] { clean with a := 0x11, c := 0x5A }).map (fun t => t.a) =
      some 0x5A := by decide

/-- `MOV C,M`, R121: a row of 95_test_vectors.md section 2. -/
theorem test_movCM :
    (after 0x0100 [0x4E] { clean with h := 0x20, l := 0x10, mem := [(0x2010, 0xA7)] }).map (fun t => t.c) =
      some 0xA7 := by decide

/-- `MOV M,E`, R122: a row of 95_test_vectors.md section 2. -/
theorem test_movME :
    (after 0x0100 [0x73] { clean with e := 0x42, h := 0x30 }).map (fun t => readCell t.mem 0x3000) =
      some 0x42 := by decide

/-- `STAX B`, R123: a row of 95_test_vectors.md section 2. -/
theorem test_staxB :
    (after 0x0100 [0x02] { clean with a := 0x99, b := 0x3F, c := 0x16 }).map (fun t => readCell t.mem 0x3F16) =
      some 0x99 := by decide

/-- `LDAX B`, R124: a row of 95_test_vectors.md section 2. -/
theorem test_ldaxB :
    (after 0x0100 [0x0A] { clean with b := 0x3F, c := 0x16, mem := [(0x3F16, 0x21)] }).map (fun t => t.a) =
      some 0x21 := by decide

/-- `STA ADR`, R125: a row of 95_test_vectors.md section 2. -/
theorem test_sta :
    (after 0x0100 [0x32, 0xB3, 0x05] { clean with a := 0x55 }).map (fun t => readCell t.mem 0x05B3) =
      some 0x55 := by decide

/-- `LDA ADR`, R126: a row of 95_test_vectors.md section 2. -/
theorem test_lda :
    (after 0x0100 [0x3A, 0x00, 0x03] { clean with mem := [(0x0300, 0x1D)] }).map (fun t => t.a) =
      some 0x1D := by decide

/-- `MVI H,D8`, R127: a row of 95_test_vectors.md section 2. -/
theorem test_mviH :
    (after 0x0100 [0x26, 0x3C] clean).map (fun t => t.h) =
      some 0x3C := by decide

/-- `MVI M,D8`, R128: a row of 95_test_vectors.md section 2. -/
theorem test_mviM :
    (after 0x0100 [0x36, 0xFF] { clean with h := 0x40 }).map (fun t => readCell t.mem 0x4000) =
      some 0xFF := by decide

/-- `SPHL`, R129: a row of 95_test_vectors.md section 2. -/
theorem test_sphl :
    (after 0x0100 [0xF9] { clean with h := 0x50, l := 0x6C, sp := 0x1234 }).map (fun t => t.sp) =
      some 0x506C := by decide

/-- `LXI B,D16`, R140: a row of 95_test_vectors.md section 2. -/
theorem test_lxiB :
    (after 0x0100 [0x01, 0x34, 0x12] clean).map (fun t => (t.b, t.c)) =
      some (0x12, 0x34) := by decide

/-- `SHLD ADR`, R141: a row of 95_test_vectors.md section 2. -/
theorem test_shld :
    (after 0x0100 [0x22, 0x0A, 0x01] { clean with h := 0xAE, l := 0x29 }).map (fun t => (readCell t.mem 0x010A, readCell t.mem 0x010B)) =
      some (0x29, 0xAE) := by decide

/-- `LHLD ADR`, R142: a row of 95_test_vectors.md section 2. -/
theorem test_lhld :
    (after 0x0100 [0x2A, 0x5B, 0x02] { clean with mem := [(0x025B, 0xFF), (0x025C, 0x03)] }).map (fun t => (t.h, t.l)) =
      some (0x03, 0xFF) := by decide

/-- `PUSH B`, R143: a row of 95_test_vectors.md section 2. -/
theorem test_pushB :
    (after 0x0100 [0xC5] { clean with b := 0x12, c := 0x34, sp := 0x2000 }).map (fun t => (t.sp, readCell t.mem 0x1FFF, readCell t.mem 0x1FFE)) =
      some (0x1FFE, 0x12, 0x34) := by decide

/-- `PUSH PSW`, R144: a row of 95_test_vectors.md section 2. -/
theorem test_pushPSW :
    (after 0x0100 [0xF5] { clean with a := 0x1F, sp := 0x502A, f := ⟨false, true, false, true, true⟩ }).map (fun t => (t.sp, readCell t.mem 0x5029, readCell t.mem 0x5028)) =
      some (0x5028, 0x1F, 0x47) := by decide

/-- `POP B`, R145: a row of 95_test_vectors.md section 2. -/
theorem test_popB :
    (after 0x0100 [0xC1] { clean with sp := 0x1FFE, mem := [(0x1FFE, 0x34), (0x1FFF, 0x12)] }).map (fun t => (t.b, t.c, t.sp)) =
      some (0x12, 0x34, 0x2000) := by decide

/-- `POP PSW`, R146: a row of 95_test_vectors.md section 2. -/
theorem test_popPSW :
    (after 0x0100 [0xF1] { clean with sp := 0x2C00, f := ⟨true, true, true, true, true⟩, mem := [(0x2C01, 0x80)] }).map (fun t => (t.a, t.f, t.sp)) =
      some (0x80, ⟨false, false, false, false, false⟩, 0x2C02) := by decide

/-- `IN N`, R160: a row of 95_test_vectors.md section 2. -/
theorem test_inN :
    (after 0x0100 [0xDB, 0x10] { clean with f := ⟨false, true, false, false, false⟩, answers := [0x3C] }).map (fun t => (t.a, t.history)) =
      some (0x3C, [.portRead 0x10 0x3C]) := by decide

/-- `OUT N`, R161: a row of 95_test_vectors.md section 2. -/
theorem test_outN :
    (after 0x0100 [0xD3, 0x01] { clean with a := 0x80 }).map (fun t => t.history) =
      some [.portWrite 0x01 0x80] := by decide

/-- `XCHG`, R170: a row of 95_test_vectors.md section 2. -/
theorem test_xchg :
    (after 0x0100 [0xEB] { clean with d := 0x33, e := 0x55, l := 0xFF }).map (fun t => (t.d, t.e, t.h, t.l)) =
      some (0x00, 0xFF, 0x33, 0x55) := by decide

/-- `XTHL`, R171: a row of 95_test_vectors.md section 2. -/
theorem test_xthl :
    (after 0x0100 [0xE3] { clean with h := 0x0B, l := 0x3C, sp := 0x10AD, mem := [(0x10AD, 0xF0), (0x10AE, 0x0D)] }).map (fun t => (t.h, t.l, readCell t.mem 0x10AD, readCell t.mem 0x10AE)) =
      some (0x0D, 0xF0, 0x3C, 0x0B) := by decide

/-- `CMC`, R180: a row of 95_test_vectors.md section 2. -/
theorem test_cmc :
    (after 0x0100 [0x3F] clean).map (fun t => t.f) =
      some ⟨false, false, false, false, true⟩ := by decide

/-- `STC`, R181: a row of 95_test_vectors.md section 2. -/
theorem test_stc :
    (after 0x0100 [0x37] clean).map (fun t => t.f) =
      some ⟨false, false, false, false, true⟩ := by decide

/-- `CMA`, R182: a row of 95_test_vectors.md section 2. -/
theorem test_cma :
    (after 0x0100 [0x2F] { clean with a := 0x51 }).map (fun t => t.a) =
      some 0xAE := by decide

/-- `DAA`, R183: a row of 95_test_vectors.md section 2. -/
theorem test_daa :
    (after 0x0100 [0x27] { clean with a := 0x9A }).map (fun t => (t.a, t.f)) =
      some (0x00, ⟨false, true, true, true, true⟩) := by decide

/-- `INR A`, R184: a row of 95_test_vectors.md section 2. -/
theorem test_inrA :
    (after 0x0100 [0x3C] { clean with a := 0xFF }).map (fun t => (t.a, t.f)) =
      some (0x00, ⟨false, true, true, true, false⟩) := by decide

/-- `INR M`, R184: a row of 95_test_vectors.md section 2. -/
theorem test_inrM :
    (after 0x0100 [0x34] { clean with h := 0x20 }).map (fun t => readCell t.mem 0x2000) =
      some 0x01 := by decide

/-- `DCR B`, R185: a row of 95_test_vectors.md section 2. -/
theorem test_dcrB :
    (after 0x0100 [0x05] { clean with b := 0x01 }).map (fun t => (t.b, t.f)) =
      some (0x00, ⟨false, true, true, true, false⟩) := by decide

/-- `DCR M`, R185: a row of 95_test_vectors.md section 2. -/
theorem test_dcrM :
    (after 0x0100 [0x35] { clean with h := 0x3A, l := 0x7C, mem := [(0x3A7C, 0x40)] }).map (fun t => (t.f, readCell t.mem 0x3A7C)) =
      some (⟨false, false, false, true, false⟩, 0x3F) := by decide

/-- `INX B`, R186: a row of 95_test_vectors.md section 2. -/
theorem test_inxB :
    (after 0x0100 [0x03] { clean with c := 0xFF }).map (fun t => (t.b, t.c)) =
      some (0x01, 0x00) := by decide

/-- `DCX D`, R187: a row of 95_test_vectors.md section 2. -/
theorem test_dcxD :
    (after 0x0100 [0x1B] clean).map (fun t => (t.d, t.e)) =
      some (0xFF, 0xFF) := by decide

/-- `ADD B`, R200: a row of 95_test_vectors.md section 2. -/
theorem test_addB :
    (after 0x0100 [0x80] { clean with a := 0xFF, b := 0x01 }).map (fun t => (t.a, t.f)) =
      some (0x00, ⟨false, true, true, true, true⟩) := by decide

/-- `ADD M`, R200: a row of 95_test_vectors.md section 2. -/
theorem test_addM :
    (after 0x0100 [0x86] { clean with a := 0x10, h := 0x20, mem := [(0x2000, 0xF0)] }).map (fun t => (t.a, t.f)) =
      some (0x00, ⟨false, true, false, true, true⟩) := by decide

/-- `ADI D8`, R201: a row of 95_test_vectors.md section 2. -/
theorem test_adi :
    (after 0x0100 [0xC6, 0x01] { clean with a := 0xFF }).map (fun t => (t.a, t.f)) =
      some (0x00, ⟨false, true, true, true, true⟩) := by decide

/-- `ADC B`, R202: a row of 95_test_vectors.md section 2. -/
theorem test_adcB :
    (after 0x0100 [0x88] { clean with a := 0x42, b := 0x3D, f := ⟨false, false, false, false, true⟩ }).map (fun t => (t.a, t.f)) =
      some (0x80, ⟨true, false, true, false, false⟩) := by decide

/-- `ADC M`, R202: a row of 95_test_vectors.md section 2. -/
theorem test_adcM :
    (after 0x0100 [0x8E] { clean with a := 0x01, h := 0x20, f := ⟨false, false, false, false, true⟩, mem := [(0x2000, 0x01)] }).map (fun t => (t.a, t.f)) =
      some (0x03, ⟨false, false, false, true, false⟩) := by decide

/-- `ACI D8`, R203: a row of 95_test_vectors.md section 2. -/
theorem test_aci :
    (after 0x0100 [0xCE, 0x3D] { clean with a := 0x42, f := ⟨false, false, false, false, true⟩ }).map (fun t => (t.a, t.f)) =
      some (0x80, ⟨true, false, true, false, false⟩) := by decide

/-- `SUB A`, R204: a row of 95_test_vectors.md section 2. -/
theorem test_subA :
    (after 0x0100 [0x97] { clean with a := 0x3E, f := ⟨false, false, false, false, true⟩ }).map (fun t => (t.a, t.f)) =
      some (0x00, ⟨false, true, true, true, false⟩) := by decide

/-- `SUI D8`, R205: a row of 95_test_vectors.md section 2. -/
theorem test_sui :
    (after 0x0100 [0xD6, 0x3E] { clean with a := 0x3E, f := ⟨false, false, false, false, true⟩ }).map (fun t => (t.a, t.f)) =
      some (0x00, ⟨false, true, true, true, false⟩) := by decide

/-- `SBB A`, R206: a row of 95_test_vectors.md section 2. -/
theorem test_sbbA :
    (after 0x0100 [0x9F] { clean with a := 0x3E }).map (fun t => (t.a, t.f)) =
      some (0x00, ⟨false, true, true, true, false⟩) := by decide

/-- `SBI D8`, R207: a row of 95_test_vectors.md section 2. -/
theorem test_sbi :
    (after 0x0100 [0xDE, 0x7F] { clean with a := 0x80, f := ⟨false, false, false, false, true⟩ }).map (fun t => (t.a, t.f)) =
      some (0x00, ⟨false, true, false, true, false⟩) := by decide

/-- `ANA B`, R208: a row of 95_test_vectors.md section 2. -/
theorem test_anaB :
    (after 0x0100 [0xA0] { clean with a := 0xFF, f := ⟨false, false, false, false, true⟩ }).map (fun t => (t.a, t.f)) =
      some (0x00, ⟨false, true, false, true, false⟩) := by decide

/-- `ANI D8`, R209: a row of 95_test_vectors.md section 2. -/
theorem test_ani :
    (after 0x0100 [0xE6, 0x00] { clean with a := 0xFF, f := ⟨false, false, false, false, true⟩ }).map (fun t => (t.a, t.f)) =
      some (0x00, ⟨false, true, false, true, false⟩) := by decide

/-- `ORA C`, R210: a row of 95_test_vectors.md section 2. -/
theorem test_oraC :
    (after 0x0100 [0xB1] { clean with a := 0x33, c := 0x0F, f := ⟨false, false, true, false, true⟩ }).map (fun t => (t.a, t.f)) =
      some (0x3F, ⟨false, false, false, true, false⟩) := by decide

/-- `ORI D8`, R211: a row of 95_test_vectors.md section 2. -/
theorem test_ori :
    (after 0x0100 [0xF6, 0x0F] { clean with a := 0x33, f := ⟨false, false, false, false, true⟩ }).map (fun t => (t.a, t.f)) =
      some (0x3F, ⟨false, false, false, true, false⟩) := by decide

/-- `XRA A`, R212: a row of 95_test_vectors.md section 2. -/
theorem test_xraA :
    (after 0x0100 [0xAF] { clean with a := 0x5C, f := ⟨false, false, true, false, true⟩ }).map (fun t => (t.a, t.f)) =
      some (0x00, ⟨false, true, false, true, false⟩) := by decide

/-- `XRI D8`, R213: a row of 95_test_vectors.md section 2. -/
theorem test_xri :
    (after 0x0100 [0xEE, 0x0F] { clean with a := 0xFF, f := ⟨false, false, false, false, true⟩ }).map (fun t => (t.a, t.f)) =
      some (0xF0, ⟨true, false, false, true, false⟩) := by decide

/-- `CMP A`, R214: a row of 95_test_vectors.md section 2. -/
theorem test_cmpA :
    (after 0x0100 [0xBF] { clean with a := 0x77, f := ⟨false, false, false, false, true⟩ }).map (fun t => t.f) =
      some ⟨false, true, true, true, false⟩ := by decide

/-- `CMP M`, R214: a row of 95_test_vectors.md section 2. -/
theorem test_cmpM :
    (after 0x0100 [0xBE] { clean with a := 0xE5, h := 0x20, mem := [(0x2000, 0x05)] }).map (fun t => t.f) =
      some ⟨true, false, true, false, false⟩ := by decide

/-- `CPI D8`, R215: a row of 95_test_vectors.md section 2. -/
theorem test_cpi :
    (after 0x0100 [0xFE, 0x05] { clean with a := 0x05, f := ⟨false, false, false, false, true⟩ }).map (fun t => t.f) =
      some ⟨false, true, true, true, false⟩ := by decide

/-- `DAD D`, R216: a row of 95_test_vectors.md section 2. -/
theorem test_dadD :
    (after 0x0100 [0x19] { clean with e := 0x01, h := 0xFF, l := 0xFF }).map (fun t => (t.h, t.l, t.f)) =
      some (0x00, 0x00, ⟨false, false, false, false, true⟩) := by decide

/-- `RLC`, R240: a row of 95_test_vectors.md section 2. -/
theorem test_rlc :
    (after 0x0100 [0x07] { clean with a := 0xF2 }).map (fun t => (t.a, t.f)) =
      some (0xE5, ⟨false, false, false, false, true⟩) := by decide

/-- `RRC`, R241: a row of 95_test_vectors.md section 2. -/
theorem test_rrc :
    (after 0x0100 [0x0F] { clean with a := 0xF2, f := ⟨false, false, false, false, true⟩ }).map (fun t => (t.a, t.f)) =
      some (0x79, ⟨false, false, false, false, false⟩) := by decide

/-- `RAL`, R242: a row of 95_test_vectors.md section 2. -/
theorem test_ral :
    (after 0x0100 [0x17] { clean with a := 0xB5 }).map (fun t => (t.a, t.f)) =
      some (0x6A, ⟨false, false, false, false, true⟩) := by decide

/-- `RAR`, R243: a row of 95_test_vectors.md section 2. -/
theorem test_rar :
    (after 0x0100 [0x1F] { clean with a := 0x6A, f := ⟨false, false, false, false, true⟩ }).map (fun t => (t.a, t.f)) =
      some (0xB5, ⟨false, false, false, false, false⟩) := by decide

/-- `JMP ADR`, R252: a row of 95_test_vectors.md section 2. -/
theorem test_jmp :
    (after 0x0100 [0xC3, 0x04, 0xF2] clean).map (fun t => t.pc) =
      some 0xF204 := by decide

/-- `PCHL`, R253: a row of 95_test_vectors.md section 2. -/
theorem test_pchl :
    (after 0x0100 [0xE9] { clean with h := 0x41, l := 0x3E }).map (fun t => t.pc) =
      some 0x413E := by decide

/-- `JNZ ADR`, R254: a row of 95_test_vectors.md section 2. -/
theorem test_jnz :
    (after 0x0100 [0xC2, 0x50, 0x01] clean).map (fun t => t.pc) =
      some 0x0150 := by decide

/-- `JZ ADR`, R255: a row of 95_test_vectors.md section 2. -/
theorem test_jz :
    (after 0x0100 [0xCA, 0x50, 0x01] { clean with f := ⟨false, true, false, false, false⟩ }).map (fun t => t.pc) =
      some 0x0150 := by decide

/-- `JNC ADR`, R256: a row of 95_test_vectors.md section 2. -/
theorem test_jnc :
    (after 0x0100 [0xD2, 0x50, 0x01] clean).map (fun t => t.pc) =
      some 0x0150 := by decide

/-- `JC ADR`, R257: a row of 95_test_vectors.md section 2. -/
theorem test_jc :
    (after 0x0100 [0xDA, 0x50, 0x01] { clean with f := ⟨false, false, false, false, true⟩ }).map (fun t => t.pc) =
      some 0x0150 := by decide

/-- `JPO ADR`, R258: a row of 95_test_vectors.md section 2. -/
theorem test_jpo :
    (after 0x0100 [0xE2, 0x50, 0x01] clean).map (fun t => t.pc) =
      some 0x0150 := by decide

/-- `JPE ADR`, R259: a row of 95_test_vectors.md section 2. -/
theorem test_jpe :
    (after 0x0100 [0xEA, 0x50, 0x01] { clean with f := ⟨false, false, false, true, false⟩ }).map (fun t => t.pc) =
      some 0x0150 := by decide

/-- `JP ADR`, R260: a row of 95_test_vectors.md section 2. -/
theorem test_jp :
    (after 0x0100 [0xF2, 0x50, 0x01] clean).map (fun t => t.pc) =
      some 0x0150 := by decide

/-- `JM ADR`, R261: a row of 95_test_vectors.md section 2. -/
theorem test_jm :
    (after 0x0100 [0xFA, 0x50, 0x01] { clean with f := ⟨true, false, false, false, false⟩ }).map (fun t => t.pc) =
      some 0x0150 := by decide

/-- `CALL ADR`, R262: a row of 95_test_vectors.md section 2. -/
theorem test_call :
    (after 0x0100 [0xCD, 0x34, 0x02] { clean with sp := 0x8000 }).map (fun t => (t.sp, readCell t.mem 0x7FFF, readCell t.mem 0x7FFE, t.pc)) =
      some (0x7FFE, 0x01, 0x03, 0x0234) := by decide

/-- `RET`, R263: a row of 95_test_vectors.md section 2. -/
theorem test_ret :
    (after 0x0100 [0xC9] { clean with sp := 0x7FFE, mem := [(0x7FFE, 0x03), (0x7FFF, 0x01)] }).map (fun t => (t.sp, t.pc)) =
      some (0x8000, 0x0103) := by decide

/-- `RST 0`, R264: a row of 95_test_vectors.md section 2. -/
theorem test_rst0 :
    (after 0x1234 [0xC7] { clean with sp := 0x9000 }).map (fun t => (t.sp, readCell t.mem 0x8FFF, readCell t.mem 0x8FFE, t.pc)) =
      some (0x8FFE, 0x12, 0x35, 0x0000) := by decide

/-- `CNZ ADR`, R265: a row of 95_test_vectors.md section 2. -/
theorem test_cnz :
    (after 0x0100 [0xC4, 0x34, 0x02] { clean with sp := 0x8000 }).map (fun t => (t.sp, readCell t.mem 0x7FFF, readCell t.mem 0x7FFE, t.pc)) =
      some (0x7FFE, 0x01, 0x03, 0x0234) := by decide

/-- `CZ ADR`, R266: a row of 95_test_vectors.md section 2. -/
theorem test_cz :
    (after 0x0100 [0xCC, 0x34, 0x02] { clean with sp := 0x8000, f := ⟨false, true, false, false, false⟩ }).map (fun t => (t.sp, readCell t.mem 0x7FFF, readCell t.mem 0x7FFE, t.pc)) =
      some (0x7FFE, 0x01, 0x03, 0x0234) := by decide

/-- `CNC ADR`, R267: a row of 95_test_vectors.md section 2. -/
theorem test_cnc :
    (after 0x0100 [0xD4, 0x34, 0x02] { clean with sp := 0x8000 }).map (fun t => (t.sp, readCell t.mem 0x7FFF, readCell t.mem 0x7FFE, t.pc)) =
      some (0x7FFE, 0x01, 0x03, 0x0234) := by decide

/-- `CC ADR`, R268: a row of 95_test_vectors.md section 2. -/
theorem test_cc :
    (after 0x0100 [0xDC, 0x34, 0x02] { clean with sp := 0x8000, f := ⟨false, false, false, false, true⟩ }).map (fun t => (t.sp, readCell t.mem 0x7FFF, readCell t.mem 0x7FFE, t.pc)) =
      some (0x7FFE, 0x01, 0x03, 0x0234) := by decide

/-- `CPO ADR`, R269: a row of 95_test_vectors.md section 2. -/
theorem test_cpo :
    (after 0x0100 [0xE4, 0x34, 0x02] { clean with sp := 0x8000 }).map (fun t => (t.sp, readCell t.mem 0x7FFF, readCell t.mem 0x7FFE, t.pc)) =
      some (0x7FFE, 0x01, 0x03, 0x0234) := by decide

/-- `CPE ADR`, R270: a row of 95_test_vectors.md section 2. -/
theorem test_cpe :
    (after 0x0100 [0xEC, 0x34, 0x02] { clean with sp := 0x8000, f := ⟨false, false, false, true, false⟩ }).map (fun t => (t.sp, readCell t.mem 0x7FFF, readCell t.mem 0x7FFE, t.pc)) =
      some (0x7FFE, 0x01, 0x03, 0x0234) := by decide

/-- `CP ADR`, R271: a row of 95_test_vectors.md section 2. -/
theorem test_cp :
    (after 0x0100 [0xF4, 0x34, 0x02] { clean with sp := 0x8000 }).map (fun t => (t.sp, readCell t.mem 0x7FFF, readCell t.mem 0x7FFE, t.pc)) =
      some (0x7FFE, 0x01, 0x03, 0x0234) := by decide

/-- `CM ADR`, R272: a row of 95_test_vectors.md section 2. -/
theorem test_cm :
    (after 0x0100 [0xFC, 0x34, 0x02] { clean with sp := 0x8000, f := ⟨true, false, false, false, false⟩ }).map (fun t => (t.sp, readCell t.mem 0x7FFF, readCell t.mem 0x7FFE, t.pc)) =
      some (0x7FFE, 0x01, 0x03, 0x0234) := by decide

/-- `RNZ`, R273: a row of 95_test_vectors.md section 2. -/
theorem test_rnz :
    (after 0x0300 [0xC0] { clean with sp := 0x7FFE, mem := [(0x7FFE, 0x03), (0x7FFF, 0x01)] }).map (fun t => (t.sp, t.pc)) =
      some (0x8000, 0x0103) := by decide

/-- `RZ`, R274: a row of 95_test_vectors.md section 2. -/
theorem test_rz :
    (after 0x0300 [0xC8] { clean with sp := 0x7FFE, f := ⟨false, true, false, false, false⟩, mem := [(0x7FFE, 0x03), (0x7FFF, 0x01)] }).map (fun t => (t.sp, t.pc)) =
      some (0x8000, 0x0103) := by decide

/-- `RNC`, R275: a row of 95_test_vectors.md section 2. -/
theorem test_rnc :
    (after 0x0300 [0xD0] { clean with sp := 0x7FFE, mem := [(0x7FFE, 0x03), (0x7FFF, 0x01)] }).map (fun t => (t.sp, t.pc)) =
      some (0x8000, 0x0103) := by decide

/-- `RC`, R276: a row of 95_test_vectors.md section 2. -/
theorem test_rc :
    (after 0x0300 [0xD8] { clean with sp := 0x7FFE, f := ⟨false, false, false, false, true⟩, mem := [(0x7FFE, 0x03), (0x7FFF, 0x01)] }).map (fun t => (t.sp, t.pc)) =
      some (0x8000, 0x0103) := by decide

/-- `RPO`, R277: a row of 95_test_vectors.md section 2. -/
theorem test_rpo :
    (after 0x0300 [0xE0] { clean with sp := 0x7FFE, mem := [(0x7FFE, 0x03), (0x7FFF, 0x01)] }).map (fun t => (t.sp, t.pc)) =
      some (0x8000, 0x0103) := by decide

/-- `RPE`, R278: a row of 95_test_vectors.md section 2. -/
theorem test_rpe :
    (after 0x0300 [0xE8] { clean with sp := 0x7FFE, f := ⟨false, false, false, true, false⟩, mem := [(0x7FFE, 0x03), (0x7FFF, 0x01)] }).map (fun t => (t.sp, t.pc)) =
      some (0x8000, 0x0103) := by decide

/-- `RP`, R279: a row of 95_test_vectors.md section 2. -/
theorem test_rp :
    (after 0x0300 [0xF0] { clean with sp := 0x7FFE, mem := [(0x7FFE, 0x03), (0x7FFF, 0x01)] }).map (fun t => (t.sp, t.pc)) =
      some (0x8000, 0x0103) := by decide

/-- `RM`, R280: a row of 95_test_vectors.md section 2. -/
theorem test_rm :
    (after 0x0300 [0xF8] { clean with sp := 0x7FFE, f := ⟨true, false, false, false, false⟩, mem := [(0x7FFE, 0x03), (0x7FFF, 0x01)] }).map (fun t => (t.sp, t.pc)) =
      some (0x8000, 0x0103) := by decide

/-- `NOP`, R300: a row of 95_test_vectors.md section 2. -/
theorem test_nop :
    (after 0x0100 [0x00] { clean with inte := true, eiDelay := true }).map (fun t => t.eiDelay) =
      some false := by decide

/-- `HLT`, R301: a row of 95_test_vectors.md section 2. -/
theorem test_hlt :
    (after 0x0200 [0x76] clean).map (fun t => t.halted) =
      some true := by decide

/-- `EI`, R302: a row of 95_test_vectors.md section 2. -/
theorem test_ei :
    (after 0x0100 [0xFB] clean).map (fun t => (t.inte, t.eiDelay)) =
      some (true, true) := by decide

/-- `DI`, R303: a row of 95_test_vectors.md section 2. -/
theorem test_di :
    (after 0x0100 [0xF3] { clean with inte := true, eiDelay := true }).map (fun t => (t.inte, t.eiDelay)) =
      some (false, false) := by decide

/-! ## The boundary, the unused codes, the fetch -/

/-- The fault of a step, if it ends in one. -/
def faultOf (s : State) : Option Fault :=
  match step s with
  | .next _ => none
  | .fault r => some r
  | .refused _ => none

/-- The refusal of a step, if it ends in one. -/
def refusalOf (s : State) : Option Refusal :=
  match step s with
  | .next _ => none
  | .fault _ => none
  | .refused r => some r

/-- The state with one boundary input scheduled. -/
def withInput (reset : Bool) (request : Option (List Byte)) (s : State) : State :=
  { s with inputs := [{ reset := reset, request := request }] }

/-- Interrupts enabled, at 0102, SP = 8000 (program P5 of 95_test_vectors.md). -/
def ready : State := { clean with pc := 0x0102, sp := 0x8000, inte := true }

/-- The alias policy (R105). -/
def aliasing : State := { clean with params := { Params.default with undefOpcode := .aliased }, sp := 0x8000 }

/-- R105, R311: the fault names the code and its address, here the last one; PC has advanced past the byte, and nothing
else has changed. -/
theorem test_unused_faults : faultOf (loaded 0xFFFF [0xDD] clean) =
    some (.undefinedOpcode 0xDD (some 0xFFFF) { loaded 0xFFFF [0xDD] clean with pc := 0x0000 }) := by decide

/-- The twelve rows of 95_test_vectors.md section 2.9: PC=0101 FAULT UndefinedOpcode. -/
theorem test_unused_vectors : unusedCodes.all (fun op => faultOf (loaded 0x0100 [op] clean) ==
    some (.undefinedOpcode op (some 0x0100) { loaded 0x0100 [op] clean with pc := 0x0101 })) = true := by decide

/-- R105: under `alias` FD runs as CALL ADR. -/
theorem test_unused_alias_call : (after 0x0100 [0xFD, 0x34, 0x12] aliasing).map
    (fun t => (t.pc, readCell t.mem 0x7FFF, readCell t.mem 0x7FFE)) = some (0x1234, 0x01, 0x03) := by decide

/-- R322, R264: RST 7 supplied in the stop state; the unadvanced PC is on the stack. -/
theorem test_interrupt_rst : (nextOf (withInput false (some [0xFF]) { ready with halted := true })).map
    (fun t => (t.pc, t.halted, readCell t.mem 0x7FFE)) = some (0x0038, false, 0x02) := by decide

/-- R322: a supplied CALL. -/
theorem test_interrupt_call : (nextOf (withInput false (some [0xCD, 0x34, 0x12]) ready)).map
    (fun t => (t.pc, t.inte)) = some (0x1234, false) := by decide

/-- R41, R321: no request is accepted right after EI; the NOP at 0102 runs. -/
theorem test_interrupt_after_ei : (nextOf (withInput false (some [0xFF]) { ready with eiDelay := true })).map
    (fun t => (t.pc, t.inte, t.eiDelay)) = some (0x0103, true, false) := by decide

/-- R322: a supplied NOP is refused, a supplied unused code faults without an address, INTE and Halted
cleared. -/
theorem test_interrupt_other : refusalOf (withInput false (some [0x00]) ready) = some (.suppliedInstruction 0x00) ∧
    faultOf (withInput false (some [0x08]) { ready with halted := true }) =
      some (.undefinedOpcode 0x08 none { ready with inte := false }) := by decide

/-- The checking mode of R351, with nothing written yet; SP is 8000 all the same. -/
def checking : State := { clean with sp := 0x8000, params := { Params.default with resetUnspecified := .faultOnRead } }

/-- R351: ADD B reads A first; with A and B written it runs, and the flags are then written too. -/
theorem test_unwritten_read : faultOf (loaded 0x0100 [0x80] checking) =
      some (.unwrittenRead (.reg .a) { loaded 0x0100 [0x80] checking with pc := 0x0101 }) ∧
    (after 0x0100 [0x80] { checking with written := [.reg .a, .reg .b] }).map (fun t => (t.pc, t.written)) =
      some (0x0101, [.reg .a, .reg .b, .flag .s, .flag .z, .flag .ac, .flag .p, .flag .cy]) := by decide

/-- R351: MVI B reads nothing and marks B; JZ reads Z; RET and an accepted RST read SP. -/
theorem test_unwritten_items : (after 0x0100 [0x06, 0x12] checking).map (fun t => t.written) = some [.reg .b] ∧
    faultOf (loaded 0x0100 [0xCA] checking) =
      some (.unwrittenRead (.flag .z) { loaded 0x0100 [0xCA] checking with pc := 0x0103 }) ∧
    faultOf (loaded 0x0100 [0xC9] checking) =
      some (.unwrittenRead .sp { loaded 0x0100 [0xC9] checking with pc := 0x0101 }) ∧
    faultOf (withInput false (some [0xFF]) { checking with inte := true }) = some (.unwrittenRead .sp checking) := by decide

/-- R351: a warm reset leaves what was written as written. -/
theorem test_warm_reset_keeps_marks : (nextOf (withInput true none { checking with written := [.reg .a] })).map
    (fun t => t.written) = some [.reg .a] := by decide

/-- R350: reset comes before an accepted request, and leaves the registers. -/
theorem test_reset_event : (nextOf (withInput true (some [0xFF]) { ready with a := 0x5A })).map
    (fun t => (t.pc, t.inte, t.a)) = some (0x0000, false, 0x5A) := by decide

/-- R42: the stop state waits. -/
theorem test_stop_state_waits : (nextOf { ready with halted := true }).map (fun t => (t.pc, t.halted)) =
    some (0x0102, true) := by decide

/-- R26, R69: an instruction that crosses the end of the address space. -/
theorem test_fetch_wraps : (after 0xFFFE [0x3E, 0x7B] clean).map (fun t => (t.a, t.pc)) = some (0x7B, 0x0000) := by decide

/-- R63: a write to `rom` changes nothing. -/
theorem test_rom_write : (after 0x0100 [0x77] { clean with
      a := 0x5A, h := 0x40, params := { Params.default with memMap := [{ base := 0x4000, size := 1, kind := .rom }] } }).map
    (fun t => readCell t.mem 0x4000) = some 0x00 := by decide

/-- `withFetchWord`: the next step runs the placed instruction. -/
theorem test_withFetchWord : (nextOf (State.withFetchWord State.reset 24 0x1234C3)).map (fun t => t.pc) = some 0x1234 := by
  decide

/-! ## Witnesses: for each statement with hypotheses, a state and operands that meet them -/

/-- One address of every kind: 8000 `rom`, 9000 `absent`, FFFF `device`, the rest `ram`; SP at the end of the space. -/
def mixed : State :=
  { clean with
    sp := 0x0001
    params := { Params.default with memMap := [{ base := 0x8000, size := 1, kind := .rom },
      { base := 0x9000, size := 1, kind := .absent }, { base := 0xFFFF, size := 1, kind := .device }] } }

/-- A request for RST 7 at the boundary of `ready`. -/
def requested : State := withInput false (some (encode (.rst 7))) ready

/-- The next state of a step whose next state is known to exist. -/
theorem nextOf_eq (s t : State) (h : nextOf s = some t) : step s = .next t := by
  unfold nextOf at h
  split at h
  · rename_i u e
    rw [e, Option.some.inj h]
  all_goals cases h

/-- A step that answers a next state with a property, from an evaluated one. -/
theorem next_with (s : State) (p : State → Bool) (h : (nextOf s).any p = true) : ∃ t, step s = .next t ∧ p t = true := by
  cases e : nextOf s with
  | none => rw [e] at h; cases h
  | some t => exact ⟨t, nextOf_eq s t e, by rw [e] at h; exact h⟩

theorem witness_EncodeReturnsDecodedBytes : decode [0xC3, 0x34, 0x12, 0x00] = .ok (.jmp 0x1234, [0x00]) ∧
    decode [0x00] = .ok (.nop, []) := ⟨rfl, rfl⟩

theorem witness_MemReadByKind : ReadsCell mixed 0x0000 ∧ ReadsCell mixed 0x8000 ∧ memKind mixed.params 0x9000 = .absent ∧
    memKind mixed.params 0xFFFF = .device ∧ clean.params.memMap = [] :=
  ⟨.inl (by decide), .inr (by decide), by decide, by decide, rfl⟩

theorem witness_MemWriteByKind : IsRam mixed 0x7FFF ∧ IsRam mixed 0x8001 ∧ memKind mixed.params 0x8000 = .rom ∧
    memKind mixed.params 0x9000 = .absent ∧ memKind mixed.params 0xFFFF = .device :=
  ⟨show _ = _ by decide, show _ = _ by decide, by decide, by decide, by decide⟩

theorem witness_RamReadReturnsLastWrite : IsRam mixed 0x0000 ∧ ReadsCell mixed 0x8000 ∧ ReadsCell mixed 0x0000 :=
  ⟨show _ = _ by decide, .inr (by decide), .inl (by decide)⟩

theorem witness_PopReadsWord : IsRam ready (ready.sp - 1) ∧ IsRam ready (ready.sp - 2) ∧
    IsRam clean (clean.sp - 1) ∧ IsRam clean (clean.sp - 2) :=
  ⟨show _ = _ by decide, show _ = _ by decide, show _ = _ by decide, show _ = _ by decide⟩

/-- MVI A,D8 at FFFE, across the end of the address space. -/
theorem witness_StepRunsDecodedInstruction : ∃ (s : State) (i : Instr) (rest : List Byte),
    s.halted = false ∧ (currentInput s).reset = false ∧ (currentInput s).request = none ∧
    ReadsCell s s.pc ∧ ReadsCell s (s.pc + 1) ∧ ReadsCell s (s.pc + 2) ∧
    decode [readCell s.mem s.pc.toNat, readCell s.mem (s.pc + 1).toNat, readCell s.mem (s.pc + 2).toNat] = .ok (i, rest) ∧
    i.wellFormed = true ∧ MayRead (uses i s).reads s :=
  ⟨loaded 0xFFFE [0x3E, 0x7B] clean, .mviA 0x7B, [0x00], rfl, rfl, rfl, .inl rfl, .inl rfl, .inl rfl, rfl, rfl,
    fun h => by cases h⟩

/-- The same under `fault_on_read`: ADD B with A and B written. -/
theorem witness_StepRunsDecodedInstruction_checked : ∃ s : State, s.halted = false ∧ (currentInput s).reset = false ∧
    (currentInput s).request = none ∧ s.params.resetUnspecified = .faultOnRead ∧
    decode [readCell s.mem s.pc.toNat, readCell s.mem (s.pc + 1).toNat, readCell s.mem (s.pc + 2).toNat] =
      .ok (.addB, [0x00, 0x00]) ∧ MayRead (uses .addB s).reads s :=
  ⟨loaded 0x0100 [0x80] { checking with written := [.reg .a, .reg .b] }, rfl, rfl, rfl, rfl, rfl, fun _ => by decide⟩

theorem witness_ResetEvent : (currentInput (withInput true (some [0xFF]) { ready with halted := true })).reset = true := by
  decide

/-- MOV M,A stores into a memory that lists other cells. -/
theorem witness_StepKeepsMemoryForm : ∃ s t : State, s.mem.wf ∧ s.mem.length = 1 ∧ step s = .next t ∧ t.mem.length = 2 := by
  obtain ⟨t, ht, hp⟩ := next_with (loaded 0x0100 [0x77] { clean with a := 0x5A, h := 0x40 })
    (fun t => t.mem.length == 2) (by decide)
  exact ⟨_, t, by decide, by decide, ht, by simpa using hp⟩

/-- MOV M,A with M in `rom`. -/
theorem witness_OnlyRamChanges : ∃ (s t : State) (a : Word), step s = .next t ∧ memKind s.params a ≠ .ram ∧
    a = regHL s := by
  obtain ⟨t, ht, -⟩ := next_with (loaded 0x0100 [0x77] { mixed with a := 0x5A, h := 0x80 }) (fun _ => true) (by decide)
  exact ⟨_, t, 0x8000, ht, by decide, by decide⟩

/-- OUT 4, which adds to the history, and LDA FFFF from a `device` address, which also takes an answer. -/
theorem witness_StepExtendsHistory : (∃ s t : State, step s = .next t ∧ t.history.length = 1) ∧
    (∃ s t : State, step s = .next t ∧ t.history.length = 1 ∧ t.answers = []) := by
  obtain ⟨t, ht, hp⟩ := next_with (loaded 0x0100 [0xD3, 0x04] clean) (fun t => t.history.length == 1) (by decide)
  obtain ⟨u, hu, hq⟩ := next_with (loaded 0x0100 [0x3A, 0xFF, 0xFF] { mixed with answers := [0x7B] })
    (fun t => t.history.length == 1 && t.answers == []) (by decide)
  refine ⟨⟨_, t, ht, by simpa using hp⟩, _, u, hu, ?_⟩
  simpa using hq

/-- No request; a request with INTE = 0; a request right after EI. -/
theorem witness_StopStateWaits :
    (∃ s : State, s.halted = true ∧ (currentInput s).reset = false ∧ (currentInput s).request = none) ∧
    (∃ s : State, s.halted = true ∧ (currentInput s).reset = false ∧ (currentInput s).request ≠ none ∧ s.inte = false) ∧
    (∃ s : State, s.halted = true ∧ (currentInput s).reset = false ∧ (currentInput s).request ≠ none ∧ s.eiDelay = true) :=
  ⟨⟨{ ready with halted := true }, rfl, rfl, rfl⟩,
    ⟨{ requested with halted := true, inte := false }, rfl, rfl, by decide, rfl⟩,
    { requested with halted := true, eiDelay := true }, rfl, rfl, by decide, rfl⟩

/-- Reset and interrupt both leave the stop state. -/
theorem witness_OnlyResetOrInterruptLeavesStop :
    (∃ s t : State, s.halted = true ∧ step s = .next t ∧ t.halted = false ∧ (currentInput s).reset = true) ∧
    (∃ s t : State, s.halted = true ∧ step s = .next t ∧ t.halted = false ∧ (currentInput s).request ≠ none) := by
  obtain ⟨t, ht, hp⟩ := next_with (withInput true none { ready with halted := true }) (fun t => !t.halted) (by decide)
  obtain ⟨u, hu, hq⟩ := next_with { requested with halted := true } (fun t => !t.halted) (by decide)
  exact ⟨⟨_, t, rfl, ht, by simpa using hp, rfl⟩, _, u, rfl, hu, by simpa using hq, by decide⟩

/-- HLT at PC, and NOP. -/
theorem witness_OnlyHltStops :
    (∃ s t : State, s.halted = false ∧ (currentInput s).reset = false ∧ (currentInput s).request = none ∧
      step s = .next t ∧ t.halted = true) ∧
    (∃ s t : State, s.halted = false ∧ (currentInput s).reset = false ∧ (currentInput s).request = none ∧
      step s = .next t ∧ t.halted = false) := by
  obtain ⟨t, ht, hp⟩ := next_with (loaded 0x0100 [0x76] clean) (fun t => t.halted) (by decide)
  obtain ⟨u, hu, hq⟩ := next_with (loaded 0x0100 [0x00] clean) (fun t => !t.halted) (by decide)
  exact ⟨⟨_, t, rfl, rfl, rfl, ht, hp⟩, _, u, rfl, rfl, rfl, hu, by simpa using hq⟩

theorem witness_OnlyEiEnables : ∃ s t : State, s.inte = false ∧ step s = .next t ∧ t.inte = true := by
  obtain ⟨t, ht, hp⟩ := next_with (loaded 0x0100 [0xFB] clean) (fun t => t.inte) (by decide)
  exact ⟨_, t, rfl, ht, hp⟩

/-- EI, with no request; a NOP right after EI, with a request present. -/
theorem witness_EiDelayAfterStep :
    (∃ s t : State, s.halted = false ∧ (currentInput s).reset = false ∧ (currentInput s).request = none ∧
      step s = .next t ∧ t.eiDelay = true) ∧
    (∃ s t : State, s.halted = false ∧ (currentInput s).reset = false ∧ s.eiDelay = true ∧
      step s = .next t ∧ t.eiDelay = false) := by
  obtain ⟨t, ht, hp⟩ := next_with (loaded 0x0100 [0xFB] clean) (fun t => t.eiDelay) (by decide)
  obtain ⟨u, hu, hq⟩ := next_with { requested with eiDelay := true } (fun t => !t.eiDelay) (by decide)
  exact ⟨⟨_, t, rfl, rfl, rfl, ht, hp⟩, _, u, rfl, rfl, rfl, hu, by simpa using hq⟩

/-- RST 7 and CALL FFFF, the highest targets. -/
theorem witness_AcceptedInterruptEntry :
    (∃ s : State, s.inte = true ∧ s.eiDelay = false ∧ (currentInput s).reset = false ∧
      (currentInput s).request = some (encode (.rst 7))) ∧
    (∃ s : State, s.inte = true ∧ s.eiDelay = false ∧ (currentInput s).reset = false ∧
      (currentInput s).request = some (encode (.call 0xFFFF)) ∧ s.params.resetUnspecified = .faultOnRead ∧
      MayRead [.sp] s) :=
  ⟨⟨requested, rfl, rfl, rfl, rfl⟩, withInput false (some (encode (.call 0xFFFF)))
    { checking with inte := true, written := [.sp] }, rfl, rfl, rfl, rfl, rfl, fun _ => by decide⟩

/-- INTE = 0 in the stop state; EIDelay = 1. -/
theorem witness_RequestNotAccepted :
    (∃ (s : State) (bytes : List Byte) (later : List BoundaryInput),
      s.inputs = { reset := false, request := some bytes } :: later ∧ s.inte = false) ∧
    (∃ (s : State) (bytes : List Byte) (later : List BoundaryInput),
      s.inputs = { reset := false, request := some bytes } :: later ∧ s.eiDelay = true) :=
  ⟨⟨{ requested with inte := false, halted := true }, [0xFF], [], rfl, rfl⟩, { requested with eiDelay := true }, [0xFF], [],
    rfl, rfl⟩

/-- FD, the highest unused code, and C9 (RET), which is neither RST n nor CALL nor unused. -/
theorem witness_SuppliedOtherStops :
    (∃ s : State, s.inte = true ∧ s.eiDelay = false ∧ (currentInput s).reset = false ∧
      (currentInput s).request = some [0xFD] ∧ 0xFD ∈ unusedCodes ∧ s.params.undefOpcode = .fault) ∧
    (∃ s : State, s.inte = true ∧ s.eiDelay = false ∧ (currentInput s).reset = false ∧
      (currentInput s).request = some [0xC9] ∧ 0xC9 ∉ unusedCodes ∧ (0xC9 : Byte) ≠ 0xCD ∧
      (∀ n : Fin 8, [0xC9] ≠ encode (.rst n))) :=
  ⟨⟨withInput false (some [0xFD]) ready, by decide⟩, withInput false (some [0xC9]) ready, by decide⟩

theorem witness_InterruptThenReturn : requested.inte = true ∧ requested.eiDelay = false ∧
    (currentInput requested).reset = false ∧ (currentInput requested).request = some (encode (.rst 7)) ∧
    IsRam requested (requested.sp - 1) ∧ IsRam requested (requested.sp - 2) ∧ MayRead [.sp] requested :=
  ⟨rfl, rfl, rfl, rfl, show _ = _ by decide, show _ = _ by decide, fun h => by cases h⟩

theorem witness_UsedInstructionsComplete : Instr.wellFormed .hlt = true ∧ Instr.wellFormed (.inN 0xFF) = true := by decide

theorem witness_UnusedCodeFaults : ∃ s : State, s.halted = false ∧ (currentInput s).reset = false ∧
    (currentInput s).request = none ∧ s.params.undefOpcode = .fault ∧ (memRead s.pc s).1 ∈ unusedCodes :=
  ⟨loaded 0xFFFF [0xFD] clean, rfl, rfl, rfl, rfl, by decide⟩

theorem witness_UnusedCodeRunsAsDocumented : aliasing.params.undefOpcode = .aliased := rfl

/-- INX B, a conditional jump's neighbour in the map, moves no control. -/
theorem witness_PcMovesPastInstruction : ¬ transfersControl .inxB ∧ exec .inxB clean = .next { clean with c := 0x01 } := by
  refine ⟨?_, rfl⟩
  rintro (⟨_, h⟩ | ⟨cond, _, h⟩ | ⟨cond, h⟩ | ⟨n, h⟩ | h)
  · simp at h
  · cases cond <;> simp [Instr.jumpCond, Instr.callCond] at h
  · cases cond <;> simp [Instr.retCond] at h
  · fin_cases n <;> simp [Instr.rst] at h
  · simp at h

/-- CMA writes no flag. -/
theorem witness_FlagsWrittenOnlyByTable : ¬ writesFlags .cma ∧ exec .cma clean = .next { clean with a := 0xFF } := by
  refine ⟨?_, rfl⟩
  rintro (⟨op, o, h⟩ | ⟨op, _, h⟩ | ⟨o, h⟩ | ⟨p, h⟩ | h)
  · cases op <;> rcases o with (_ | _ | _ | _ | _ | _ | _) | _ <;> simp [Instr.alu] at h
  · cases op <;> simp [Instr.aluImm] at h
  · rcases o with (_ | _ | _ | _ | _ | _ | _) | _ <;> simp [Instr.inr, Instr.dcr] at h
  · rcases p with (_ | _ | _) | _ <;> simp [Instr.dad] at h
  · simp at h

/-- ADD B with A unwritten; an accepted RST 7 with SP unwritten; a step that ends in this fault. -/
theorem witness_UnwrittenReadFaults :
    (∃ s : State, s.halted = false ∧ (currentInput s).reset = false ∧ (currentInput s).request = none ∧
      decode [readCell s.mem s.pc.toNat, readCell s.mem (s.pc + 1).toNat, readCell s.mem (s.pc + 2).toNat] =
        .ok (.addB, [0x00, 0x00]) ∧ ¬ MayRead (uses .addB s).reads s) ∧
    (∃ s : State, s.inte = true ∧ s.eiDelay = false ∧ (currentInput s).reset = false ∧
      (currentInput s).request = some (encode (.rst 7)) ∧ ¬ MayRead [.sp] s) ∧
    (∃ (s : State) (x : Item) (u : State), faultOf s = some (.unwrittenRead x u)) :=
  ⟨⟨loaded 0x0100 [0x80] checking, rfl, rfl, rfl, rfl, fun h => absurd (h rfl (.reg .a) (by decide)) (by decide)⟩,
    ⟨withInput false (some (encode (.rst 7))) { checking with inte := true }, rfl, rfl, rfl, rfl,
      fun h => absurd (h rfl .sp (by decide)) (by decide)⟩,
    loaded 0x0100 [0x80] checking, _, _, test_unwritten_read.1⟩

/-- ADD B: D is not written; a state with another D agrees on what is read. -/
theorem witness_UsesCoverEffects : ∃ s t s' : State, exec .addB s = .next t ∧ .reg .d ∉ (uses .addB s).writes ∧
    AgreeOn (uses .addB s).reads s s' ∧ s'.d ≠ s.d :=
  ⟨clean, _, { clean with d := 0x5A }, rfl, by decide, ⟨by decide, rfl, rfl, ⟨rfl, rfl, rfl, rfl, rfl, rfl⟩, rfl, rfl, rfl⟩,
    by decide⟩

/-- ADD B with A and B written; the other state has another C. -/
theorem witness_StepIgnoresUnwritten : ∃ s t s' : State, s.params.resetUnspecified = .faultOnRead ∧
    step s = .next t ∧ AgreeOn s.written s s' ∧ s'.c ≠ s.c := by
  obtain ⟨t, ht, -⟩ := next_with (loaded 0x0100 [0x80] { checking with written := [.reg .a, .reg .b] })
    (fun _ => true) (by decide)
  exact ⟨_, t, loaded 0x0100 [0x80] { checking with written := [.reg .a, .reg .b], c := 0x5A }, rfl, ht,
    ⟨by decide, rfl, rfl, ⟨rfl, rfl, rfl, rfl, rfl, rfl⟩, rfl, rfl, rfl⟩, by decide⟩

/-- Each condition is true of one of these states' flags. -/
theorem witness_UsesFollowTables : CondTrue .z { clean.f with z := true } ∧ ¬ CondTrue .z clean.f := by
  simp [CondTrue, clean, State.reset]

/-- SP = FFFF: the second byte is at 0000. -/
theorem witness_PopInstructions : ∃ (s : State) (lo hi : Byte × State), s.sp = 0xFFFF ∧ lo = memRead s.sp s ∧
    hi = memRead (s.sp + 1) lo.2 := ⟨{ clean with sp := 0xFFFF }, _, _, rfl, rfl, rfl⟩

theorem witness_PswSavedAndRestored : IsRam clean (clean.sp - 1) ∧ IsRam clean (clean.sp - 2) :=
  ⟨show _ = _ by decide, show _ = _ by decide⟩

/-- SP = FFFF: H exchanges with the byte at 0000. -/
theorem witness_ExchangeInstructions : ∃ (s : State) (lo hi : Byte × State), s.sp = 0xFFFF ∧ lo = memRead s.sp s ∧
    hi = memRead (s.sp + 1) lo.2 := ⟨{ clean with sp := 0xFFFF }, _, _, rfl, rfl, rfl⟩

/-- A = 9A: both steps happen; A = 99 with both flags 0: neither does. -/
theorem witness_DaaAdjusts :
    ((True ↔ ({ clean with a := 0x9A } : State).f.ac = true ∨ 9 < ({ clean with a := 0x9A } : State).a.toNat % 16) ∧
      (True ↔ ({ clean with a := 0x9A } : State).f.cy = true ∨ 9 < (({ clean with a := 0x9A } : State).a.toNat + 6) / 16)) ∧
    ((False ↔ ({ clean with a := 0x99 } : State).f.ac = true ∨ 9 < ({ clean with a := 0x99 } : State).a.toNat % 16) ∧
      (False ↔ ({ clean with a := 0x99 } : State).f.cy = true ∨
        9 < (({ clean with a := 0x99 } : State).a.toNat + 0) / 16)) := by decide

/-- 99 + 99 by ADD, and by ADC with CY = 1, the greatest digits. -/
theorem witness_BcdAdditionCorrect : ∃ (s : State) (o : Operand8), s.f.cy = true ∧ ValidBcd s.a ∧ ValidBcd (get8 o s).1 ∧
    s.a = 0x99 ∧ (get8 o s).1 = 0x99 :=
  ⟨{ clean with a := 0x99, f := { clean.f with cy := true } }, .reg .a, rfl, ⟨by decide, by decide⟩, ⟨by decide, by decide⟩,
    rfl, rfl⟩

/-- INR M and DCR M with M at FFFF. -/
theorem witness_IncrementDecrement : ∃ (s : State) (m : Word) (v : Byte × State), m = joinBytes s.h s.l ∧
    v = memRead m s ∧ m = 0xFFFF := ⟨{ clean with h := 0xFF, l := 0xFF }, _, _, rfl, rfl, rfl⟩

theorem witness_LogicInstructions : clean.params.anaAc = .zero ∧
    ({ clean with params := { Params.default with anaAc := .orBit3 } } : State).params.anaAc = .orBit3 := ⟨rfl, rfl⟩

/-- Each condition is true of one of these flags and false of the other. -/
theorem witness_ConditionalInstructions (cond : Cond) : ∃ f g : Flags, CondTrue cond f ∧ ¬ CondTrue cond g := by
  cases cond
  case nz | nc | po | p =>
    exact ⟨⟨false, false, false, false, false⟩, ⟨true, true, true, true, true⟩, rfl, by simp [CondTrue]⟩
  case z | c | pe | m =>
    exact ⟨⟨true, true, true, true, true⟩, ⟨false, false, false, false, false⟩, rfl, by simp [CondTrue]⟩

/-- JZ, CZ and RZ with Z = 1 and with Z = 0. -/
theorem witness_JumpInstructions : CondTrue .z { clean.f with z := true } ∧ ¬ CondTrue .z clean.f := by
  simp [CondTrue, clean, State.reset]

theorem witness_CallInstructions : CondTrue .m { clean.f with s := true } ∧ ¬ CondTrue .m clean.f := by
  simp [CondTrue, clean, State.reset]

theorem witness_ReturnInstructions : CondTrue .nc clean.f ∧ ¬ CondTrue .nc { clean.f with cy := true } := by
  simp [CondTrue, clean, State.reset]

end Sys2Proof.Tests
end

section
/-! The surroundings of the processor as they grow over a step (R6, R65, R74, R351): the relation `Extends`, one lemma
per shared operation that says the operation only extends them, then `exec`, the boundary and `step`. -/

namespace Sys2Proof.Machine

/-! ## The relation -/

/-- `t` has the parameters and the scheduled inputs of `s`; it adds events only at the end, takes answers only from the
front, never lowers the draws and takes back no mark. -/
structure Extends (s t : State) : Prop where
  params : t.params = s.params
  inputs : t.inputs = s.inputs
  history : s.history <+: t.history
  answers : t.answers <:+ s.answers
  draws : s.draws ≤ t.draws
  written : s.written ⊆ t.written

/-- The part of the state that `Extends` speaks of. -/
def surroundings (s : State) : Params × List BoundaryInput × List IoEvent × List Byte × Nat × List Item :=
  (s.params, s.inputs, s.history, s.answers, s.draws, s.written)

theorem Extends.of_same {s t : State} (h : surroundings t = surroundings s) : Extends s t := by
  simp only [surroundings, Prod.mk.injEq] at h
  obtain ⟨hp, hi, hh, ha, hd, hw⟩ := h
  exact ⟨hp, hi, hh ▸ List.prefix_rfl, ha ▸ List.suffix_rfl, hd.ge, hw ▸ List.Subset.refl _⟩

theorem Extends.refl (s : State) : Extends s s := .of_same rfl

theorem Extends.trans {s t u : State} (h : Extends s t) (k : Extends t u) : Extends s u where
  params := k.params.trans h.params
  inputs := k.inputs.trans h.inputs
  history := h.history.trans k.history
  answers := k.answers.trans h.answers
  draws := h.draws.trans k.draws
  written := List.Subset.trans h.written k.written

/-- What follows may change anything but the surroundings. -/
theorem Extends.keep {s t u : State} (h : Extends s t) (e : surroundings u = surroundings t) : Extends s u :=
  h.trans (.of_same e)

/-! ## Registers and marks -/

theorem surroundings_setReg (r : Reg) (v : Byte) (s : State) : surroundings (setReg r v s) = surroundings s := by
  cases r <;> rfl

theorem surroundings_setRegPair (p : RegPair) (v : Word) (s : State) :
    surroundings (setRegPair p v s) = surroundings s := by
  cases p <;> rfl

theorem surroundings_setPair (p : Pair) (v : Word) (s : State) : surroundings (setPair p v s) = surroundings s := by
  cases p with
  | rp q => exact surroundings_setRegPair q v s
  | sp => rfl

theorem extends_markItems (ws : List Item) (s : State) : Extends s (markItems ws s) where
  __ := Extends.refl s
  written := fun x hx => (mem_markItems ws s x).mpr (.inl hx)

/-! ## Memory, ports, operands -/

/-- The form in which `memRead_snd`, `ioRead_eq` and `fetchInstr_rest` give the state after reads. -/
theorem extends_of_access (s : State) (more : List IoEvent) (taken n : Nat) :
    Extends s { s with history := s.history ++ more, answers := s.answers.drop taken, draws := s.draws + n } where
  __ := Extends.refl s
  history := List.prefix_append _ _
  answers := List.drop_suffix _ _
  draws := Nat.le_add_right _ _

theorem extends_memRead (a : Word) (s : State) : Extends s (memRead a s).2 := by
  obtain ⟨more, taken, n, h⟩ := memRead_snd a s
  rw [h]
  exact extends_of_access s more taken n

theorem extends_memWrite (a : Word) (v : Byte) (s : State) : Extends s (memWrite a v s) where
  params := memWrite_params a v s
  inputs := memWrite_inputs a v s
  history := memWrite_history a v s ▸ List.prefix_append _ _
  answers := (memWrite_answers a v s).symm ▸ List.suffix_rfl
  draws := (memWrite_draws a v s).ge
  written := (memWrite_written a v s).symm ▸ List.Subset.refl _

theorem extends_ioRead (port : Byte) (s : State) : Extends s (ioRead port s).2 := by
  rw [ioRead_eq, ← List.drop_one]
  exact extends_of_access s _ 1 0

theorem extends_ioWrite (port v : Byte) (s : State) : Extends s (ioWrite port v s) :=
  extends_of_access s [.portWrite port v] 0 0

theorem extends_get8 (o : Operand8) (s : State) : Extends s (get8 o s).2 := by
  cases o with
  | reg r => exact .refl s
  | m => exact extends_memRead (regHL s) s

theorem extends_set8 (o : Operand8) (v : Byte) (s : State) : Extends s (set8 o v s) := by
  cases o with
  | reg r => exact .of_same (surroundings_setReg r v s)
  | m => exact extends_memWrite (regHL s) v s

/-- INR and DCR: an operand is read, the flags change, the operand is written (R184, R185). -/
theorem extends_updateOperand (o : Operand8) (v : Byte) (f : Flags) (s : State) :
    Extends s (set8 o v { (get8 o s).2 with f := f }) :=
  have flags : Extends s { (get8 o s).2 with f := f } := (extends_get8 o s).keep rfl
  flags.trans (extends_set8 o v _)

/-- MOV r,M, LDAX and LDA: a byte is read into a register (R121, R124, R126). -/
theorem extends_loadReg (r : Reg) (a : Word) (s : State) : Extends s (setReg r (memRead a s).1 (memRead a s).2) :=
  (extends_memRead a s).keep (surroundings_setReg r _ _)

/-! ## Stack, calls and returns -/

theorem extends_push16 (v : Word) (s : State) : Extends s (push16 v s) :=
  ((extends_memWrite _ _ s).trans (extends_memWrite _ _ _)).keep rfl

theorem extends_pop16 (s : State) : Extends s (pop16 s).2 :=
  ((extends_memRead _ s).trans (extends_memRead _ _)).keep rfl

theorem extends_callTo (target : Word) (s : State) : Extends s (callTo target s) :=
  (extends_push16 s.pc s).keep rfl

theorem extends_returnFrom (s : State) : Extends s (returnFrom s) :=
  (extends_pop16 s).keep rfl

theorem extends_enterInterrupt (target : Word) (s : State) : Extends s (enterInterrupt target s) :=
  have entry : Extends s (beginEntry s) := .of_same rfl
  (entry.trans (extends_callTo target _)).keep rfl

theorem extends_exchangeHlStack (s : State) : Extends s (exchangeHlStack s) :=
  have reads := (extends_memRead s.sp s).trans (extends_memRead (s.sp + 1) _)
  have writes := (extends_memWrite (s.sp + 1) s.h _).trans (extends_memWrite s.sp s.l _)
  (reads.trans writes).keep rfl

/-! ## Instructions -/

theorem extends_fetchInstr (s : State) : Extends s (fetchInstr s).2 := by
  obtain ⟨pc, more, taken, n, h⟩ := fetchInstr_rest s
  rw [h]
  exact (extends_of_access s more taken n).keep rfl

/-- An operation that is done or left out by a condition. -/
theorem extends_ite {s t : State} (c : Bool) (h : Extends s t) : Extends s (if c then t else s) := by
  cases c with
  | true => exact h
  | false => exact .refl s

/-- Lets each form of an instruction be settled on the operation its `exec` equation names. -/
theorem Extends.of_next {o : Result} {s t u : State} (e : o = .next u) (h : o = .next t) (k : Extends s u) :
    Extends s t := by
  obtain rfl : u = t := Host.Outcome.next.inj (e.symm.trans h)
  exact k

/-- An unused code goes on only where the policy gives it a meaning, in the state of the documented instruction (R105). -/
theorem unusedCode_eq_next {code : Byte} {documented : State → State} {s t : State}
    (h : unusedCode code documented s = .next t) : t = documented s := by
  unfold unusedCode at h
  split at h
  · cases h
  · exact (Host.Outcome.next.inj h).symm

theorem extends_exec {i : Instr} {s t : State} (h : exec i s = .next t) : Extends s t := by
  cases form i with
  | mov dst src => exact .of_next (exec_mov dst src s) h (.of_same (surroundings_setReg dst _ s))
  | movFromM dst => exact .of_next (exec_movFromM dst s) h (extends_loadReg dst _ s)
  | movToM src => exact .of_next (exec_movToM src s) h (extends_memWrite _ _ s)
  | mvi dst v => exact .of_next (exec_mvi dst v s) h (.of_same (surroundings_setReg dst v s))
  | mviM v => exact .of_next (exec_mviM v s) h (extends_memWrite _ _ s)
  | staxB => exact .of_next (exec_staxB s) h (extends_memWrite _ _ s)
  | staxD => exact .of_next (exec_staxD s) h (extends_memWrite _ _ s)
  | ldaxB => exact .of_next (exec_ldaxB s) h (extends_loadReg .a _ s)
  | ldaxD => exact .of_next (exec_ldaxD s) h (extends_loadReg .a _ s)
  | sta adr => exact .of_next (exec_sta adr s) h (extends_memWrite _ _ s)
  | lda adr => exact .of_next (exec_lda adr s) h (extends_loadReg .a _ s)
  | sphl => exact .of_next (exec_sphl s) h (.of_same rfl)
  | lxi p v => exact .of_next (exec_lxi p v s) h (.of_same (surroundings_setPair p v s))
  | shld adr => exact .of_next (exec_shld adr s) h ((extends_memWrite _ _ s).trans (extends_memWrite _ _ _))
  | lhld adr => exact .of_next (exec_lhld adr s) h ((extends_loadReg .l _ s).trans (extends_loadReg .h _ _))
  | push p => exact .of_next (exec_push p s) h (extends_push16 _ s)
  | pop p => exact .of_next (exec_pop p s) h ((extends_pop16 s).keep (surroundings_setRegPair p _ _))
  | pushPSW => exact .of_next (exec_pushPSW s) h (extends_push16 _ s)
  | popPSW => exact .of_next (exec_popPSW s) h ((extends_pop16 s).keep rfl)
  | inN n => exact .of_next (exec_inN n s) h ((extends_ioRead n s).keep rfl)
  | outN n => exact .of_next (exec_outN n s) h (extends_ioWrite n s.a s)
  | xchg => exact .of_next (exec_xchg s) h (.of_same rfl)
  | xthl => exact .of_next (exec_xthl s) h (extends_exchangeHlStack s)
  | cmc => exact .of_next (exec_cmc s) h (.of_same rfl)
  | stc => exact .of_next (exec_stc s) h (.of_same rfl)
  | cma => exact .of_next (exec_cma s) h (.of_same rfl)
  | daa => exact .of_next (exec_daa s) h (.of_same rfl)
  | inr o => exact .of_next (exec_inr o s) h (extends_updateOperand o _ _ s)
  | dcr o => exact .of_next (exec_dcr o s) h (extends_updateOperand o _ _ s)
  | inx p => exact .of_next (exec_inx p s) h (.of_same (surroundings_setPair p _ s))
  | dcx p => exact .of_next (exec_dcx p s) h (.of_same (surroundings_setPair p _ s))
  | alu op o => exact .of_next (exec_alu op o s) h ((extends_get8 o s).keep rfl)
  | aluImm op v => exact .of_next (exec_aluImm op v s) h (.of_same rfl)
  | dad p => exact .of_next (exec_dad p s) h (.of_same rfl)
  | rlc => exact .of_next (exec_rlc s) h (.of_same rfl)
  | rrc => exact .of_next (exec_rrc s) h (.of_same rfl)
  | ral => exact .of_next (exec_ral s) h (.of_same rfl)
  | rar => exact .of_next (exec_rar s) h (.of_same rfl)
  | jmp adr => exact .of_next (exec_jmp adr s) h (.of_same rfl)
  | pchl => exact .of_next (exec_pchl s) h (.of_same rfl)
  | call adr => exact .of_next (exec_call adr s) h (extends_callTo adr s)
  | ret => exact .of_next (exec_ret s) h (extends_returnFrom s)
  | jumpCond cond adr => exact .of_next (exec_jumpCond cond adr s) h (extends_ite _ (.of_same rfl))
  | callCond cond adr => exact .of_next (exec_callCond cond adr s) h (extends_ite _ (extends_callTo adr s))
  | retCond cond => exact .of_next (exec_retCond cond s) h (extends_ite _ (extends_returnFrom s))
  | rst n => exact .of_next (exec_rst n s) h (extends_callTo _ s)
  | nop => exact .of_next (exec_nop s) h (.refl s)
  | hlt => exact .of_next (exec_hlt s) h (.of_same rfl)
  | ei => exact .of_next (exec_ei s) h (.of_same rfl)
  | di => exact .of_next (exec_di s) h (.of_same rfl)
  | unused _ code documented run ill one =>
    obtain rfl := unusedCode_eq_next ((run s).symm.trans h)
    obtain rfl | ⟨adr, rfl⟩ | ⟨adr, rfl⟩ | rfl := one
    · exact .refl s
    · exact .of_same rfl
    · exact extends_callTo adr s
    · exact extends_returnFrom s

/-! ## Steps -/

/-- Every step, of the four kinds of R325, extends the surroundings it finds once its boundary input is taken. -/
theorem extends_step {s t : State} (h : step s = .next t) : Extends (afterInput s) t := by
  obtain ⟨-, rfl⟩ | ⟨-, -, bytes, target, -, -, -, rfl⟩ | ⟨-, -, -, rfl⟩ | ⟨-, -, -, u, hu, -, rfl⟩ := step_cases s t h
  case inl => exact .of_same rfl
  case inr.inl => exact (extends_enterInterrupt target _).trans (extends_markItems _ _)
  case inr.inr.inl => exact .refl _
  case inr.inr.inr =>
    have ran : Extends (afterInput s) u := (extends_fetchInstr _).trans (extends_exec hu)
    refine Extends.trans ?_ (extends_markItems _ _)
    split
    · exact ran
    · exact ran.keep rfl

/-- Settles O17: `Extends` from the state after the input is taken, read field by field. -/
theorem stepExtendsHistory : Obligations.StepExtendsHistory := by
  intro s t h
  obtain ⟨hparams, hinputs, ⟨more, hmore⟩, ⟨taken, htaken⟩, hdraws, hwritten⟩ := extends_step h
  exact ⟨hparams, hinputs, ⟨more, hmore.symm⟩, ⟨taken, htaken.symm⟩, hdraws, hwritten⟩

end Sys2Proof.Machine
end

section
/-! What an instruction reads and writes (R23, R38, R39): operations that depend on and change listed registers, flags
and SP only, how such operations compose, and that every `exec` is one of them, for the lists that `uses` gives. -/

namespace Sys2Proof.Machine

/-! ## Registers, flags and SP against the rest of the state -/

/-- INTE, EIDelay and Halted, which HLT, EI, DI and the boundary alone change (R40 to R42). -/
def controlBits (s : State) : Bool × Bool × Bool := (s.inte, s.eiDelay, s.halted)

/-- The state without its registers, flags and SP. -/
def outside (s : State) :
    Word × Memory × (Bool × Bool × Bool) × Params × List BoundaryInput × List IoEvent × List Byte × Nat × List Item :=
  (s.pc, s.mem, controlBits s, surroundings s)

/-- The registers, flags and SP. -/
def items (s : State) : Byte × Byte × Byte × Byte × Byte × Byte × Byte × Flags × Word :=
  (s.a, s.b, s.c, s.d, s.e, s.h, s.l, s.f, s.sp)

theorem itemValue_congr {s t : State} (h : items t = items s) (x : Item) : itemValue x t = itemValue x s := by
  simp only [items, Prod.mk.injEq] at h
  obtain ⟨ha, hb, hc, hd, he, hh, hl, hf, hsp⟩ := h
  cases x with
  | reg r => cases r <;> simp only [itemValue, getReg, ha, hb, hc, hd, he, hh, hl]
  | flag n => simp only [itemValue, hf]
  | sp => simp only [itemValue, hsp]

/-- `AgreeOn` in two parts: the listed items, and everything outside the items. -/
theorem agreeOn_iff (xs : List Item) (s s' : State) :
    AgreeOn xs s s' ↔ (∀ x ∈ xs, itemValue x s' = itemValue x s) ∧ outside s' = outside s := by
  simp only [AgreeOn, SameControl, SameEvents, outside, controlBits, surroundings, Prod.mk.injEq]
  tauto

theorem AgreeOn.items {xs : List Item} {s s' : State} (h : AgreeOn xs s s') :
    ∀ x ∈ xs, itemValue x s' = itemValue x s :=
  ((agreeOn_iff xs s s').mp h).1

theorem AgreeOn.outside {xs : List Item} {s s' : State} (h : AgreeOn xs s s') : outside s' = outside s :=
  ((agreeOn_iff xs s s').mp h).2

theorem AgreeOn.reg {xs : List Item} {s s' : State} (h : AgreeOn xs s s') {r : Reg} (hr : .reg r ∈ xs) :
    getReg r s' = getReg r s :=
  BitVec.eq_of_toNat_eq (h.items _ hr)

theorem AgreeOn.sp {xs : List Item} {s s' : State} (h : AgreeOn xs s s') (hsp : .sp ∈ xs) : s'.sp = s.sp :=
  BitVec.eq_of_toNat_eq (h.items _ hsp)

theorem flagValue_eq_of_itemValue {s s' : State} {n : FlagName}
    (h : itemValue (.flag n) s' = itemValue (.flag n) s) : flagValue n s'.f = flagValue n s.f :=
  have inj : ∀ a b : Bool, a.toNat = b.toNat → a = b := by decide
  inj _ _ h

theorem AgreeOn.flag {xs : List Item} {s s' : State} (h : AgreeOn xs s s') {n : FlagName} (hn : .flag n ∈ xs) :
    flagValue n s'.f = flagValue n s.f :=
  flagValue_eq_of_itemValue (h.items _ hn)

theorem AgreeOn.a {xs : List Item} {s s' : State} (h : AgreeOn xs s s') (ha : .reg .a ∈ xs) : s'.a = s.a := h.reg ha

theorem AgreeOn.cy {xs : List Item} {s s' : State} (h : AgreeOn xs s s') (hcy : .flag .cy ∈ xs) : s'.f.cy = s.f.cy :=
  h.flag hcy

/-- The five flags are their values. -/
theorem flags_ext {f g : Flags} (h : ∀ n, flagValue n f = flagValue n g) : f = g := by
  cases f
  cases g
  exact (Flags.mk.injEq ..).mpr ⟨h .s, h .z, h .ac, h .p, h .cy⟩

theorem mem_flagItems (n : FlagName) : .flag n ∈ flagItems := by cases n <;> decide

/-! ## What a write to items changes -/

theorem itemValue_setReg_ne {x : Item} {r : Reg} (v : Byte) (s : State) (h : x ≠ .reg r) :
    itemValue x (setReg r v s) = itemValue x s := by
  cases x with
  | reg q => simp [itemValue, getReg_setReg_ne r q v s (by simpa using h)]
  | flag n => simp [itemValue]
  | sp => simp [itemValue]

/-- A change of the flags is seen in the values of the flags only. -/
theorem itemValue_with_f (x : Item) (f : Flags) (s : State) (h : ∀ n, x = .flag n → flagValue n f = flagValue n s.f) :
    itemValue x { s with f := f } = itemValue x s := by
  cases x with
  | reg r => cases r <;> rfl
  | flag n => exact congrArg Bool.toNat (h n rfl)
  | sp => rfl

/-- A change of SP is seen in the value of SP only. -/
theorem itemValue_with_sp {x : Item} (w : Word) (s : State) (h : x ≠ .sp) :
    itemValue x { s with sp := w } = itemValue x s := by
  cases x with
  | reg r => cases r <;> rfl
  | flag n => rfl
  | sp => exact absurd rfl h

/-- CY replaced, the other flags kept. -/
def setCy (cy : Bool) (s : State) : State := { s with f := { s.f with cy := cy } }

/-- All five flags replaced. -/
def setFlags (f : Flags) (s : State) : State := { s with f := f }

/-- Z, S and P of a result byte, and AC; CY kept: the flags of INR and DCR (R184, R185). -/
def setCountFlags (v : Byte) (ac : Bool) (s : State) : State := { s with f := zsp v { s.f with ac := ac } }

/-! ## Values that depend on listed items only -/

/-- The value is the same in two states that agree on the items and outside them. -/
def DependsOn {α : Type} (xs : List Item) (v : State → α) : Prop := ∀ s s', AgreeOn xs s s' → v s' = v s

section
variable {α β : Type} {xs : List Item}

theorem DependsOn.map {v : State → α} (f : α → β) (h : DependsOn xs v) : DependsOn xs (fun s => f (v s)) :=
  fun s s' a => congrArg f (h s s' a)

theorem DependsOn.pair {v : State → α} {w : State → β} (hv : DependsOn xs v) (hw : DependsOn xs w) :
    DependsOn xs (fun s => (v s, w s)) :=
  fun s s' a => by simp only [hv s s' a, hw s s' a]

/-- A value of the part outside the items needs no item. -/
theorem DependsOn.of_outside {v : State → α} (h : ∀ s s', outside s' = outside s → v s' = v s) : DependsOn xs v :=
  fun s s' a => h s s' a.outside

theorem dependsOn_const (a : α) : DependsOn xs (fun _ => a) := fun _ _ _ => rfl

theorem dependsOn_getReg {r : Reg} (hr : .reg r ∈ xs) : DependsOn xs (getReg r) := fun _ _ a => a.reg hr

theorem dependsOn_sp (hsp : .sp ∈ xs) : DependsOn xs State.sp := fun _ _ a => a.sp hsp

theorem dependsOn_flag {n : FlagName} (hn : .flag n ∈ xs) : DependsOn xs (fun s => flagValue n s.f) :=
  fun _ _ a => a.flag hn

theorem dependsOn_flags (hf : flagItems ⊆ xs) : DependsOn xs State.f :=
  fun _ _ a => flags_ext fun n => a.flag (hf (mem_flagItems n))

theorem dependsOn_pc : DependsOn xs State.pc :=
  .of_outside fun _ _ h => congrArg Prod.fst h

theorem dependsOn_params : DependsOn xs State.params :=
  .of_outside fun _ _ h => congrArg (fun o => o.2.2.2.1) h

theorem dependsOn_joined {r q : Reg} (hr : .reg r ∈ xs) (hq : .reg q ∈ xs) :
    DependsOn xs (fun s => joinBytes (getReg r s) (getReg q s)) :=
  fun s s' a => by simp only [a.reg hr, a.reg hq]

theorem dependsOn_getRegPair {p : RegPair} (hp : regPairItems p ⊆ xs) : DependsOn xs (getRegPair p) := by
  cases p with
  | bc => exact dependsOn_joined (r := .b) (q := .c) (hp (by simp [regPairItems])) (hp (by simp [regPairItems]))
  | de => exact dependsOn_joined (r := .d) (q := .e) (hp (by simp [regPairItems])) (hp (by simp [regPairItems]))
  | hl => exact dependsOn_joined (r := .h) (q := .l) (hp (by simp [regPairItems])) (hp (by simp [regPairItems]))

theorem dependsOn_regHL (h : regPairItems .hl ⊆ xs) : DependsOn xs regHL := dependsOn_getRegPair (p := .hl) h

theorem dependsOn_getPair {p : Pair} (hp : pairItems p ⊆ xs) : DependsOn xs (getPair p) := by
  cases p with
  | rp q => exact dependsOn_getRegPair hp
  | sp => exact dependsOn_sp (hp (by simp [pairItems]))

end

/-! ## Operations -/

/-- The operation leaves every item outside the writes, and in two states that agree on the reads and outside the
items it leaves two that agree on the writes and outside the items. -/
structure Respects (u : Uses) (op : State → State) : Prop where
  frame : ∀ s x, x ∉ u.writes → itemValue x (op s) = itemValue x s
  agree : ∀ s s', AgreeOn u.reads s s' → AgreeOn u.writes (op s) (op s')

/-- Such an operation that leaves INTE, EIDelay and Halted, which all but HLT, EI and DI do. -/
structure Computes (u : Uses) (op : State → State) : Prop extends Respects u op where
  control : ∀ s, controlBits (op s) = controlBits s

section
variable {α : Type} {rs ws ws' : List Item} {u : Uses} {op f : State → State} {v : State → α} {g : α → State → State}

/-- What two states agreed on, they agree on after the operation, beside what it writes. -/
theorem Respects.agree_more (h : Respects ⟨rs, ws⟩ op) {s s' : State} (a : AgreeOn rs s s') :
    AgreeOn (ws ++ rs) (op s) (op s') := by
  refine (agreeOn_iff _ _ _).mpr ⟨fun x hx => ?_, (h.agree s s' a).outside⟩
  by_cases hw : x ∈ ws
  · exact (h.agree s s' a).items x hw
  · have hr : x ∈ rs := (List.mem_append.mp hx).resolve_left hw
    rw [h.frame s' x hw, h.frame s x hw, a.items x hr]

theorem AgreeOn.mono {xs ys : List Item} {s s' : State} (h : AgreeOn xs s s') (hsub : ys ⊆ xs) : AgreeOn ys s s' :=
  (agreeOn_iff _ _ _).mpr ⟨fun x hx => h.items x (hsub hx), h.outside⟩

/-- An operation outside the items. -/
theorem Respects.of_outside (hitems : ∀ s, items (op s) = items s)
    (hout : ∀ s s', outside s' = outside s → outside (op s') = outside (op s)) : Respects ⟨rs, []⟩ op where
  frame s x _ := itemValue_congr (hitems s) x
  agree s s' a := (agreeOn_iff _ _ _).mpr ⟨by simp, hout s s' a.outside⟩

theorem Computes.of_outside (hitems : ∀ s, items (op s) = items s)
    (hout : ∀ s s', outside s' = outside s → outside (op s') = outside (op s))
    (hcontrol : ∀ s, controlBits (op s) = controlBits s) : Computes ⟨rs, []⟩ op where
  toRespects := .of_outside hitems hout
  control := hcontrol

/-- An operation that puts fixed values into the items it writes. -/
theorem Computes.of_items (hout : ∀ s, outside (op s) = outside s)
    (hframe : ∀ s x, x ∉ ws → itemValue x (op s) = itemValue x s)
    (hset : ∀ x ∈ ws, ∀ s s', itemValue x (op s') = itemValue x (op s)) : Computes ⟨rs, ws⟩ op where
  frame := hframe
  agree := fun s s' a => (agreeOn_iff _ _ _).mpr
    ⟨fun x hx => hset x hx s s', (hout s').trans (a.outside.trans (hout s).symm)⟩
  control s := congrArg (fun o => o.2.2.1) (hout s)

/-- One operation and then another one, whose argument is a value of the state before both. -/
theorem Computes.seq (hv : DependsOn rs v) (hf : Computes ⟨rs, ws⟩ f) (hg : ∀ a, Computes ⟨rs, ws'⟩ (g a)) :
    Computes ⟨rs, ws ++ ws'⟩ (fun s => g (v s) (f s)) where
  frame s x hx := by
    have hx' : x ∉ ws ∧ x ∉ ws' := by simpa using hx
    exact ((hg (v s)).frame (f s) x hx'.2).trans (hf.frame s x hx'.1)
  agree s s' a := by
    have first : AgreeOn (ws ++ rs) (f s) (f s') := hf.agree_more a
    have again : AgreeOn rs (f s) (f s') := first.mono (List.subset_append_right ws rs)
    have both : AgreeOn ws' (g (v s) (f s)) (g (v s) (f s')) := (hg (v s)).agree _ _ again
    show AgreeOn (ws ++ ws') (g (v s) (f s)) (g (v s') (f s'))
    rw [hv s s' a]
    refine (agreeOn_iff _ _ _).mpr ⟨fun x hx => ?_, both.outside⟩
    by_cases hw : x ∈ ws'
    · exact both.items x hw
    · have hx' : x ∈ ws := (List.mem_append.mp hx).resolve_right hw
      rw [(hg (v s)).frame _ x hw, (hg (v s)).frame _ x hw]
      exact first.items x (List.mem_append_left rs hx')
  control s := ((hg (v s)).control (f s)).trans (hf.control s)

theorem Computes.id : Computes ⟨rs, []⟩ (fun s => s) :=
  .of_outside (fun _ => rfl) (fun _ _ h => h) (fun _ => rfl)

/-- An operation whose argument is a value of the state. -/
theorem Computes.of_value (hv : DependsOn rs v) (hg : ∀ a, Computes ⟨rs, ws⟩ (g a)) :
    Computes ⟨rs, ws⟩ (fun s => g (v s) s) :=
  .seq hv .id hg

/-- Reads, and then an operation on what was read. -/
theorem Computes.read (hv : DependsOn rs v) (hf : Computes ⟨rs, []⟩ f) (hg : ∀ a, Computes ⟨rs, ws⟩ (g a)) :
    Computes ⟨rs, ws⟩ (fun s => g (v s) (f s)) :=
  .seq hv hf hg

theorem Computes.comp {g : State → State} (hf : Computes ⟨rs, ws⟩ f) (hg : Computes ⟨rs, ws'⟩ g) :
    Computes ⟨rs, ws ++ ws'⟩ (fun s => g (f s)) :=
  .seq (v := fun _ => ()) (g := fun _ => g) (fun _ _ _ => rfl) hf (fun _ => hg)

/-- The same items written, in another order. -/
theorem Computes.reorder (h : Computes ⟨rs, ws⟩ op) (hw : ∀ x, x ∈ ws' ↔ x ∈ ws) : Computes ⟨rs, ws'⟩ op where
  frame s x hx := h.frame s x (mt (hw x).mpr hx)
  agree s s' a := (h.agree s s' a).mono fun x hx => (hw x).mp hx
  control := h.control

end

theorem DependsOn.after {α : Type} {rs ws : List Item} {v : State → α} {f : State → State} (hv : DependsOn rs v)
    (hf : Computes ⟨rs, ws⟩ f) : DependsOn rs (fun s => v (f s)) :=
  fun _ _ a => hv _ _ ((hf.agree_more a).mono (List.subset_append_right ws rs))

/-! ## The shared operations -/

section
variable {rs : List Item}

theorem computes_setReg (r : Reg) (v : Byte) : Computes ⟨rs, [.reg r]⟩ (setReg r v) := by
  refine .of_items (fun s => by cases r <;> rfl) (fun s x hx => itemValue_setReg_ne v s (by simpa using hx)) ?_
  intro x hx s s'
  obtain rfl : x = .reg r := by simpa using hx
  simp [itemValue]

theorem computes_setSp (w : Word) : Computes ⟨rs, [.sp]⟩ (fun s => { s with sp := w }) := by
  refine .of_items (fun _ => rfl) (fun s x hx => itemValue_with_sp w s (by simpa using hx)) ?_
  intro x hx s s'
  obtain rfl : x = .sp := by simpa using hx
  rfl

theorem computes_setRegPair (p : RegPair) (v : Word) : Computes ⟨rs, regPairItems p⟩ (setRegPair p v) := by
  cases p with
  | bc => exact (computes_setReg .b (highByte v)).comp (computes_setReg .c (lowByte v))
  | de => exact (computes_setReg .d (highByte v)).comp (computes_setReg .e (lowByte v))
  | hl => exact (computes_setReg .h (highByte v)).comp (computes_setReg .l (lowByte v))

theorem computes_setPair (p : Pair) (v : Word) : Computes ⟨rs, pairItems p⟩ (setPair p v) := by
  cases p with
  | rp q => exact computes_setRegPair q v
  | sp => exact computes_setSp v

theorem computes_setCy (cy : Bool) : Computes ⟨rs, [.flag .cy]⟩ (setCy cy) := by
  refine .of_items (fun _ => rfl) (fun s x hx => itemValue_with_f x _ s ?_) ?_
  · rintro n rfl
    cases n with
    | cy => simp at hx
    | s | z | ac | p => rfl
  · intro x hx s s'
    obtain rfl : x = .flag .cy := by simpa using hx
    rfl

theorem computes_setFlags (f : Flags) : Computes ⟨rs, flagItems⟩ (setFlags f) := by
  refine .of_items (fun _ => rfl) (fun s x hx => itemValue_with_f x f s ?_) ?_
  · rintro n rfl
    exact absurd (mem_flagItems n) hx
  · intro x hx s s'
    cases x with
    | flag n => rfl
    | reg r => simp [flagItems] at hx
    | sp => simp [flagItems] at hx

theorem computes_setCountFlags (v : Byte) (ac : Bool) : Computes ⟨rs, countFlagItems⟩ (setCountFlags v ac) := by
  refine .of_items (fun _ => rfl) (fun s x hx => itemValue_with_f x _ s ?_) ?_
  · rintro n rfl
    cases n with
    | cy => rfl
    | s | z | ac | p => simp [countFlagItems] at hx
  · intro x hx s s'
    cases x with
    | flag n =>
      cases n with
      | cy => simp [countFlagItems] at hx
      | s | z | ac | p => rfl
    | reg r => simp [countFlagItems] at hx
    | sp => simp [countFlagItems] at hx

theorem computes_jumpTo (w : Word) : Computes ⟨rs, []⟩ (jumpTo w) :=
  .of_outside (fun _ => rfl) (fun _ _ h => congrArg (fun o => (w, o.2)) h) (fun _ => rfl)

/-! ### Memory and ports -/

/-- What is determined outside the items: they may be replaced. -/
theorem eq_of_outside {s s' : State} (h : outside s' = outside s) :
    ∃ a b c d e h l f sp, s' = { s with a := a, b := b, c := c, d := d, e := e, h := h, l := l, f := f, sp := sp } := by
  simp only [outside, controlBits, surroundings, Prod.mk.injEq] at h
  obtain ⟨hpc, hmem, ⟨hinte, hei, hhalted⟩, hparams, hinputs, hhistory, hanswers, hdraws, hwritten⟩ := h
  refine ⟨s'.a, s'.b, s'.c, s'.d, s'.e, s'.h, s'.l, s'.f, s'.sp, ?_⟩
  rw [← hpc, ← hmem, ← hinte, ← hei, ← hhalted, ← hparams, ← hinputs, ← hhistory, ← hanswers, ← hdraws, ← hwritten]

/-- A byte read is determined outside the items, and so is what the read leaves there. -/
theorem memRead_congr (a : Word) {s s' : State} (h : outside s' = outside s) :
    (memRead a s').1 = (memRead a s).1 ∧ outside (memRead a s').2 = outside (memRead a s).2 := by
  obtain ⟨_, _, _, _, _, _, _, _, _, rfl⟩ := eq_of_outside h
  rw [memRead_eq, memRead_eq]
  cases memKind s.params a <;> exact ⟨rfl, rfl⟩

theorem memWrite_congr (a : Word) (v : Byte) {s s' : State} (h : outside s' = outside s) :
    outside (memWrite a v s') = outside (memWrite a v s) := by
  obtain ⟨_, _, _, _, _, _, _, _, _, rfl⟩ := eq_of_outside h
  rw [memWrite_eq, memWrite_eq]
  cases memKind s.params a <;> rfl

theorem ioRead_congr (port : Byte) {s s' : State} (h : outside s' = outside s) :
    (ioRead port s').1 = (ioRead port s).1 ∧ outside (ioRead port s').2 = outside (ioRead port s).2 := by
  obtain ⟨_, _, _, _, _, _, _, _, _, rfl⟩ := eq_of_outside h
  rw [ioRead_eq, ioRead_eq]
  exact ⟨rfl, rfl⟩

theorem ioWrite_congr (port v : Byte) {s s' : State} (h : outside s' = outside s) :
    outside (ioWrite port v s') = outside (ioWrite port v s) := by
  obtain ⟨_, _, _, _, _, _, _, _, _, rfl⟩ := eq_of_outside h
  rfl

theorem computes_memRead (a : Word) : Computes ⟨rs, []⟩ (fun s => (memRead a s).2) :=
  .of_outside (fun s => by simp [items]) (fun _ _ h => (memRead_congr a h).2)
    (fun s => by simp [controlBits])

theorem computes_memWrite (a : Word) (v : Byte) : Computes ⟨rs, []⟩ (memWrite a v) :=
  .of_outside (fun s => by simp [items]) (fun _ _ h => memWrite_congr a v h)
    (fun s => by simp [controlBits])

theorem computes_ioRead (port : Byte) : Computes ⟨rs, []⟩ (fun s => (ioRead port s).2) :=
  .of_outside (fun s => by rw [ioRead_eq]; rfl) (fun _ _ h => (ioRead_congr port h).2) (fun s => by rw [ioRead_eq]; rfl)

theorem computes_ioWrite (port v : Byte) : Computes ⟨rs, []⟩ (ioWrite port v) :=
  .of_outside (fun _ => rfl) (fun _ _ h => ioWrite_congr port v h) (fun _ => rfl)

theorem dependsOn_memRead {w : State → Word} (hw : DependsOn rs w) : DependsOn rs (fun s => (memRead (w s) s).1) :=
  fun s s' a => by simp only [hw s s' a, (memRead_congr (w s) a.outside).1]

theorem dependsOn_ioRead (port : Byte) : DependsOn rs (fun s => (ioRead port s).1) :=
  .of_outside fun _ _ h => (ioRead_congr port h).1

/-- A store of a value of the state at an address of the state. -/
theorem computes_store {w : State → Word} {v : State → Byte} (hw : DependsOn rs w) (hv : DependsOn rs v) :
    Computes ⟨rs, []⟩ (fun s => memWrite (w s) (v s) s) :=
  .of_value (v := fun s => (w s, v s)) (g := fun x => memWrite x.1 x.2) (hw.pair hv)
    fun x => computes_memWrite x.1 x.2

/-- A load into a register from an address of the state. -/
theorem computes_load (r : Reg) {w : State → Word} (hw : DependsOn rs w) :
    Computes ⟨rs, [.reg r]⟩ (fun s => setReg r (memRead (w s) s).1 (memRead (w s) s).2) :=
  .read (dependsOn_memRead hw) (.of_value (g := fun a s => (memRead a s).2) hw computes_memRead) (computes_setReg r)

/-! ### Operands -/

theorem dependsOn_get8 {o : Operand8} (ho : operandItems o ⊆ rs) : DependsOn rs (fun s => (get8 o s).1) := by
  cases o with
  | reg r => exact dependsOn_getReg (ho (by simp [operandItems]))
  | m => exact dependsOn_memRead (dependsOn_regHL ho)

theorem computes_get8 {o : Operand8} (ho : operandItems o ⊆ rs) : Computes ⟨rs, []⟩ (fun s => (get8 o s).2) := by
  cases o with
  | reg r => exact .id
  | m => exact .of_value (g := fun a s => (memRead a s).2) (dependsOn_regHL ho) computes_memRead

theorem computes_set8 {o : Operand8} (ho : operandItems o ⊆ rs) (v : Byte) :
    Computes ⟨rs, targetItems o⟩ (set8 o v) := by
  cases o with
  | reg r => exact computes_setReg r v
  | m => exact .of_value (g := fun a => memWrite a v) (dependsOn_regHL ho) fun a => computes_memWrite a v

/-! ### Stack, calls and returns -/

/-- The two stores of a push, with SP and the word given (R82). -/
def storeBelow (sp v : Word) (s : State) : State :=
  { memWrite (sp - 2) (lowByte v) (memWrite (sp - 1) (highByte v) s) with sp := sp - 2 }

theorem computes_push16 (hsp : .sp ∈ rs) {v : State → Word} (hv : DependsOn rs v) :
    Computes ⟨rs, [.sp]⟩ (fun s => push16 (v s) s) :=
  .of_value (v := fun s => (s.sp, v s)) (g := fun x => storeBelow x.1 x.2) ((dependsOn_sp hsp).pair hv) fun x =>
    ((computes_memWrite _ _).comp (computes_memWrite _ _)).comp (computes_setSp (x.1 - 2))

/-- The state after the reads of the bytes at an address and at the next one. -/
def afterTwoReads (a : Word) (s : State) : State := (memRead (a + 1) (memRead a s).2).2

theorem computes_afterTwoReads (a : Word) : Computes ⟨rs, []⟩ (afterTwoReads a) :=
  (computes_memRead a).comp (computes_memRead (a + 1))

/-- The two bytes at an address of the state and at the next one, high byte first. -/
theorem dependsOn_twoReads {w : State → Word} (hw : DependsOn rs w) :
    DependsOn rs (fun s => ((memRead (w s + 1) (memRead (w s) s).2).1, (memRead (w s) s).1)) := by
  have second (a : Word) : DependsOn rs (fun s => (memRead (a + 1) (memRead a s).2).1) :=
    (dependsOn_memRead (w := fun _ => a + 1) fun _ _ _ => rfl).after (computes_memRead a)
  refine DependsOn.pair (fun s s' h => ?_) (dependsOn_memRead hw)
  rw [hw s s' h]
  exact second (w s) s s' h

theorem dependsOn_pop16 (hsp : .sp ∈ rs) : DependsOn rs (fun s => (pop16 s).1) := fun s s' a => by
  obtain ⟨hi, lo⟩ := Prod.mk.inj (dependsOn_twoReads (dependsOn_sp hsp) s s' a)
  simp only [pop16, hi, lo]

theorem computes_pop16 (hsp : .sp ∈ rs) : Computes ⟨rs, [.sp]⟩ (fun s => (pop16 s).2) :=
  .of_value (g := fun sp s => { afterTwoReads sp s with sp := sp + 2 }) (dependsOn_sp hsp) fun sp =>
    (computes_afterTwoReads sp).comp (computes_setSp (sp + 2))

theorem computes_callTo (hsp : .sp ∈ rs) (target : Word) : Computes ⟨rs, [.sp]⟩ (callTo target) :=
  (computes_push16 hsp dependsOn_pc).comp (computes_jumpTo target)

theorem computes_returnFrom (hsp : .sp ∈ rs) : Computes ⟨rs, [.sp]⟩ returnFrom :=
  .seq (g := jumpTo) (dependsOn_pop16 hsp) (computes_pop16 hsp) computes_jumpTo

end

/-! ## The operations of the instructions -/

section
variable {rs : List Item}

/-- A and the five flags replaced, as by the operations of group 6, DAA and POP PSW. -/
def setAccFlags (a : Byte) (f : Flags) (s : State) : State := setFlags f (setReg .a a s)

theorem computes_setAccFlags (a : Byte) (f : Flags) : Computes ⟨rs, .reg .a :: flagItems⟩ (setAccFlags a f) :=
  (computes_setReg .a a).comp (computes_setFlags f)

/-! ### Groups 1 to 4 -/

theorem computes_moveRegister (dst src : Reg) : Computes (movUses dst src) (moveRegister dst src) :=
  .of_value (g := setReg dst) (dependsOn_getReg (by simp)) (computes_setReg dst)

theorem computes_loadIndirect {p : RegPair} (hp : regPairItems p ⊆ rs) : Computes ⟨rs, [.reg .a]⟩ (loadIndirect p) :=
  computes_load .a (dependsOn_getRegPair hp)

theorem computes_storeIndirect {p : RegPair} (hp : regPairItems p ⊆ rs) (ha : .reg .a ∈ rs) :
    Computes ⟨rs, []⟩ (storeIndirect p) :=
  computes_store (dependsOn_getRegPair hp) (dependsOn_getReg ha)

theorem computes_loadSpFromHl : Computes ⟨[.reg .h, .reg .l], [.sp]⟩ loadSpFromHl :=
  .of_value (g := fun w s => { s with sp := w }) (dependsOn_regHL (List.Subset.refl _)) computes_setSp

theorem computes_storeHlDirect (adr : Word) : Computes ⟨[.reg .h, .reg .l], []⟩ (storeHlDirect adr) :=
  .read (v := State.h) (g := memWrite (adr + 1)) (dependsOn_getReg (r := .h) (by simp))
    (computes_store (dependsOn_const adr) (dependsOn_getReg (r := .l) (by simp))) (computes_memWrite (adr + 1))

theorem computes_loadHlDirect (adr : Word) : Computes ⟨rs, [.reg .h, .reg .l]⟩ (loadHlDirect adr) :=
  ((computes_load .l (dependsOn_const adr)).comp (computes_load .h (dependsOn_const (adr + 1)))).reorder fun x => by
    simp [or_comm]

theorem computes_pushPair (p : RegPair) : Computes (pushUses (regPairItems p)) (pushPair p) :=
  computes_push16 (by simp) (dependsOn_getRegPair (List.subset_append_left _ _))

theorem computes_pushPsw : Computes (pushUses (.reg .a :: flagItems)) pushPsw :=
  have hf : DependsOn (.reg .a :: flagItems ++ [.sp]) State.f := dependsOn_flags (by simp [flagItems])
  computes_push16 (by simp) fun s s' h => by simp only [h.a (by simp), hf s s' h]

theorem computes_popPair (p : RegPair) : Computes (popUses (regPairItems p)) (popPair p) :=
  Computes.reorder (.seq (g := setRegPair p) (dependsOn_pop16 (by simp)) (computes_pop16 (by simp)) (computes_setRegPair p))
    fun x => by simp [or_comm]

theorem computes_popPsw : Computes (popUses (.reg .a :: flagItems)) popPsw :=
  Computes.reorder (.seq (g := fun w => setAccFlags (highByte w) (unpackFlags (lowByte w))) (dependsOn_pop16 (by simp))
    (computes_pop16 (by simp)) fun w => computes_setAccFlags _ _) fun x => by simp [or_comm, or_assoc]

theorem computes_inputFrom (n : Byte) : Computes ⟨rs, [.reg .a]⟩ (inputFrom n) :=
  .read (g := setReg .a) (dependsOn_ioRead n) (computes_ioRead n) (computes_setReg .a)

theorem computes_outputTo (n : Byte) : Computes ⟨[.reg .a], []⟩ (outputTo n) :=
  .of_value (v := State.a) (g := ioWrite n) (dependsOn_getReg (r := .a) (by simp)) (computes_ioWrite n)

/-- The four registers of XCHG replaced. -/
def setHlDe (h l d e : Byte) (s : State) : State := { s with h := h, l := l, d := d, e := e }

theorem computes_setHlDe (h l d e : Byte) :
    Computes ⟨rs, [.reg .d, .reg .e, .reg .h, .reg .l]⟩ (setHlDe h l d e) :=
  ((computes_setReg .d d).comp (computes_setReg .e e)).comp ((computes_setReg .h h).comp (computes_setReg .l l))

theorem computes_exchangeHlDe :
    Computes ⟨[.reg .d, .reg .e, .reg .h, .reg .l], [.reg .d, .reg .e, .reg .h, .reg .l]⟩ exchangeHlDe :=
  .of_value (v := fun s => ((s.d, s.e), (s.h, s.l))) (g := fun x => setHlDe x.1.1 x.1.2 x.2.1 x.2.2)
    (((dependsOn_getReg (r := .d) (by simp)).pair (dependsOn_getReg (r := .e) (by simp))).pair
      ((dependsOn_getReg (r := .h) (by simp)).pair (dependsOn_getReg (r := .l) (by simp))))
    fun _ => computes_setHlDe _ _ _ _

/-- The second half of XTHL: the stores of H and L, and the bytes read put into H and L (R171). -/
def storeHlLoadHl (sp : Word) (h l hi lo : Byte) (s : State) : State :=
  { memWrite sp l (memWrite (sp + 1) h s) with h := hi, l := lo }

theorem computes_storeHlLoadHl (sp : Word) (h l hi lo : Byte) :
    Computes ⟨rs, [.reg .h, .reg .l]⟩ (storeHlLoadHl sp h l hi lo) :=
  ((computes_memWrite (sp + 1) h).comp (computes_memWrite sp l)).comp
    ((computes_setReg .h hi).comp (computes_setReg .l lo))

theorem computes_exchangeHlStack : Computes ⟨[.reg .h, .reg .l, .sp], [.reg .h, .reg .l]⟩ exchangeHlStack :=
  have hsp : DependsOn [.reg .h, .reg .l, .sp] State.sp := dependsOn_sp (by simp)
  have hhl := (dependsOn_getReg (xs := [.reg .h, .reg .l, .sp]) (r := .h) (by simp)).pair
    (dependsOn_getReg (r := .l) (by simp))
  .read (v := fun s => ((s.sp, s.h, s.l), (memRead (s.sp + 1) (memRead s.sp s).2).1, (memRead s.sp s).1))
    (g := fun x => storeHlLoadHl x.1.1 x.1.2.1 x.1.2.2 x.2.1 x.2.2) ((hsp.pair hhl).pair (dependsOn_twoReads hsp))
    (.of_value (g := afterTwoReads) hsp computes_afterTwoReads) fun _ => computes_storeHlLoadHl _ _ _ _ _

/-! ### Groups 5 to 7 -/

theorem computes_complementCarry : Computes ⟨[.flag .cy], [.flag .cy]⟩ complementCarry :=
  .of_value (v := fun s => s.f.cy) (g := fun cy => setCy (!cy)) (dependsOn_flag (n := .cy) (by simp))
    fun cy => computes_setCy (!cy)

theorem computes_complementAccumulator : Computes ⟨[.reg .a], [.reg .a]⟩ complementAccumulator :=
  .of_value (v := State.a) (g := fun a => setReg .a (~~~a)) (dependsOn_getReg (r := .a) (by simp))
    fun a => computes_setReg .a (~~~a)

theorem adjustDecimal_congr (a : Byte) {f f' : Flags} (hac : f'.ac = f.ac) (hcy : f'.cy = f.cy) :
    adjustDecimal a f' = adjustDecimal a f := by
  obtain ⟨_, _, ac, _, cy⟩ := f
  obtain ⟨_, _, _, _, _⟩ := f'
  subst hac hcy
  rfl

theorem computes_decimalAdjust :
    Computes ⟨[.reg .a, .flag .cy, .flag .ac], .reg .a :: flagItems⟩ decimalAdjust := by
  refine .of_value (v := fun s => adjustDecimal s.a s.f) (g := fun r => setAccFlags r.1 r.2) (fun s s' h => ?_)
    fun r => computes_setAccFlags r.1 r.2
  have hac : s'.f.ac = s.f.ac := h.flag (n := .ac) (by simp)
  simp only [h.a (by simp), adjustDecimal_congr s.a hac (h.cy (by simp))]

/-- INR and DCR in one: the operand read, its flags, the operand written (R184, R185). -/
def countOperand (next : Byte → Byte) (ac : Byte → Bool) (o : Operand8) (s : State) : State :=
  set8 o (next (get8 o s).1) (setCountFlags (next (get8 o s).1) (ac (get8 o s).1) (get8 o s).2)

theorem incrementOperand_eq (o : Operand8) :
    incrementOperand o = countOperand (· + 1) (fun v => decide (lowNibble v = 15)) o := by
  funext s
  simp only [incrementOperand, increment8, countOperand, setCountFlags, get8_f]

theorem decrementOperand_eq (o : Operand8) :
    decrementOperand o = countOperand (· - 1) (fun v => decide (lowNibble v ≠ 0)) o := by
  funext s
  simp only [decrementOperand, decrement8, countOperand, setCountFlags, get8_f]

theorem computes_countOperand (next : Byte → Byte) (ac : Byte → Bool) (o : Operand8) :
    Computes (countUses o) (countOperand next ac o) :=
  have ho : operandItems o ⊆ operandItems o := List.Subset.refl _
  Computes.reorder (.read (g := fun v s => set8 o (next v) (setCountFlags (next v) (ac v) s)) (dependsOn_get8 ho)
    (computes_get8 ho) fun v => (computes_setCountFlags (next v) (ac v)).comp (computes_set8 ho (next v)))
    fun x => by simp [or_comm]

theorem computes_incrementPair (p : Pair) : Computes (stepPairUses p) (incrementPair p) :=
  .of_value (g := fun w => setPair p (w + 1)) (dependsOn_getPair (List.Subset.refl _)) fun w => computes_setPair p (w + 1)

theorem computes_decrementPair (p : Pair) : Computes (stepPairUses p) (decrementPair p) :=
  .of_value (g := fun w => setPair p (w - 1)) (dependsOn_getPair (List.Subset.refl _)) fun w => computes_setPair p (w - 1)

/-- An operation of group 6 reads the flag that R39 lists for it, and no other. -/
theorem aluResult_congr (policy : AnaAcPolicy) (op : AluOp) (a v : Byte) {f f' : Flags}
    (h : .flag .cy ∈ carryItems op → f'.cy = f.cy) : aluResult policy op a v f' = aluResult policy op a v f := by
  cases op with
  | adc | sbb => simp only [aluResult, h (by simp [carryItems])]
  | add | sub | ana | xra | ora | cmp => rfl

theorem computes_aluWithByte {op : AluOp} (ha : .reg .a ∈ rs) (hc : carryItems op ⊆ rs) (v : Byte) :
    Computes ⟨rs, resultItems op ++ flagItems⟩ (aluWithByte op v) := by
  have hr : DependsOn rs (fun s => aluResult s.params.anaAc op s.a v s.f) := fun s s' h => by
    have hparams : s'.params = s.params := dependsOn_params s s' h
    have hcy : .flag .cy ∈ carryItems op → s'.f.cy = s.f.cy := fun m => h.cy (hc m)
    simp only [h.a ha, hparams, aluResult_congr _ op s.a v hcy]
  cases op with
  | cmp => exact .of_value (g := setFlags) (hr.map Prod.snd) computes_setFlags
  | add | adc | sub | sbb | ana | xra | ora =>
    exact .of_value (g := fun r => setAccFlags r.1 r.2) hr fun r => computes_setAccFlags r.1 r.2

theorem computes_aluWithOperand (op : AluOp) (o : Operand8) : Computes (aluUses op o) (aluWithOperand op o) :=
  have ho : operandItems o ⊆ [.reg .a] ++ operandItems o ++ carryItems op := fun x hx => by simp [hx]
  .read (g := aluWithByte op) (dependsOn_get8 ho) (computes_get8 ho)
    (computes_aluWithByte (by simp) (List.subset_append_right _ _))

theorem computes_addPairToHl (p : Pair) : Computes (dadUses p) (addPairToHl p) := by
  have hp : pairItems p ⊆ [.reg .h, .reg .l] ++ pairItems p := List.subset_append_right _ _
  have hhl : regPairItems .hl ⊆ [.reg .h, .reg .l] ++ pairItems p := List.subset_append_left _ _
  have sum : DependsOn ([.reg .h, .reg .l] ++ pairItems p) (fun s => (regHL s).toNat + (getPair p s).toNat) :=
    fun s s' h => by simp only [dependsOn_regHL hhl s s' h, dependsOn_getPair hp s s' h]
  exact Computes.reorder (.of_value
    (g := fun t s => setRegPair .hl (BitVec.ofNat 16 t) (setCy (decide (t > 0xFFFF)) s)) sum
    fun t => (computes_setCy _).comp (computes_setRegPair .hl _)) fun x => by
      simp [regPairItems, or_comm, or_left_comm]

theorem computes_withShifted (v : Byte) (cy : Bool) : Computes ⟨rs, [.reg .a, .flag .cy]⟩ (withShifted v cy) :=
  (computes_setReg .a v).comp (computes_setCy cy)

/-- RLC, RRC, RAL and RAR: A and CY become values of the state (R240 to R243). -/
theorem computes_shift {a : State → Byte} {cy : State → Bool} (ha : DependsOn rs a) (hcy : DependsOn rs cy) :
    Computes ⟨rs, [.reg .a, .flag .cy]⟩ (fun s => withShifted (a s) (cy s) s) :=
  .of_value (v := fun s => (a s, cy s)) (g := fun x => withShifted x.1 x.2) (ha.pair hcy)
    fun x => computes_withShifted x.1 x.2

theorem dependsOn_bitOfA (k : Nat) (ha : .reg .a ∈ rs) : DependsOn rs (fun s => s.a.getLsbD k) :=
  (dependsOn_getReg ha).map fun a => a.getLsbD k

theorem computes_rotateLeft : Computes ⟨[.reg .a], [.reg .a, .flag .cy]⟩ rotateLeft :=
  computes_shift (fun s s' h => by rw [h.a (by simp)]) (dependsOn_bitOfA 7 (by simp))

theorem computes_rotateRight : Computes ⟨[.reg .a], [.reg .a, .flag .cy]⟩ rotateRight :=
  computes_shift (fun s s' h => by rw [h.a (by simp)]) (dependsOn_bitOfA 0 (by simp))

theorem computes_rotateLeftThroughCarry :
    Computes ⟨[.reg .a, .flag .cy], [.reg .a, .flag .cy]⟩ rotateLeftThroughCarry :=
  computes_shift (fun s s' h => by rw [h.a (by simp), h.cy (by simp)]) (dependsOn_bitOfA 7 (by simp))

theorem computes_rotateRightThroughCarry :
    Computes ⟨[.reg .a, .flag .cy], [.reg .a, .flag .cy]⟩ rotateRightThroughCarry :=
  computes_shift (fun s s' h => by rw [h.a (by simp), h.cy (by simp)]) (dependsOn_bitOfA 0 (by simp))

/-! ### Groups 8 and 9 -/

theorem dependsOn_condHolds {cond : Cond} (h : condItem cond ∈ rs) : DependsOn rs (fun s => condHolds cond s.f) := by
  cases cond with
  | nz => exact (dependsOn_flag (n := .z) h).map not
  | z => exact dependsOn_flag (n := .z) h
  | nc => exact (dependsOn_flag (n := .cy) h).map not
  | c => exact dependsOn_flag (n := .cy) h
  | po => exact (dependsOn_flag (n := .p) h).map not
  | pe => exact dependsOn_flag (n := .p) h
  | p => exact (dependsOn_flag (n := .s) h).map not
  | m => exact dependsOn_flag (n := .s) h

theorem computes_jumpIf (cond : Cond) (adr : Word) : Computes (jumpIfUses cond) (jumpIf cond adr) := by
  refine .of_value (g := fun (c : Bool) s => if c then jumpTo adr s else s) (dependsOn_condHolds (by simp)) fun c => ?_
  cases c with
  | true => exact computes_jumpTo adr
  | false => exact .id

theorem computes_jumpToHl : Computes ⟨[.reg .h, .reg .l], []⟩ (fun s => jumpTo (regHL s) s) :=
  .of_value (g := jumpTo) (dependsOn_regHL (List.Subset.refl _)) computes_jumpTo

end

theorem respects_halt : Respects noUses halt :=
  .of_outside (fun _ => rfl) fun s s' h => by
    obtain ⟨_, _, _, _, _, _, _, _, _, rfl⟩ := eq_of_outside h
    rfl

theorem respects_enableInterrupts : Respects noUses enableInterrupts :=
  .of_outside (fun _ => rfl) fun s s' h => by
    obtain ⟨_, _, _, _, _, _, _, _, _, rfl⟩ := eq_of_outside h
    rfl

theorem respects_disableInterrupts : Respects noUses disableInterrupts :=
  .of_outside (fun _ => rfl) fun s s' h => by
    obtain ⟨_, _, _, _, _, _, _, _, _, rfl⟩ := eq_of_outside h
    rfl

/-! ## Every instruction -/

/-- A step of `exec` from `s` to `t` that does what `uses` says, and leaves INTE, EIDelay and Halted unless it is of
HLT, EI or DI. -/
structure Accounted (i : Instr) (s t : State) : Prop where
  frame : ∀ x, x ∉ (uses i s).writes → itemValue x t = itemValue x s
  agree : ∀ s', AgreeOn (uses i s).reads s s' →
    uses i s' = uses i s ∧ ∃ t', exec i s' = .next t' ∧ AgreeOn (uses i s).writes t t'
  control : i ≠ .hlt → i ≠ .ei → i ≠ .di → controlBits t = controlBits s

section
variable {i : Instr} {s t : State} {u : Uses} {op : State → State}

theorem AgreeOn.refl (xs : List Item) (s : State) : AgreeOn xs s s := (agreeOn_iff xs s s).mpr ⟨fun _ _ => rfl, rfl⟩

/-- The operation and the uses need to be those of the instruction in states that agree with `s` only. -/
theorem Accounted.of_respects
    (h : ∀ s', AgreeOn u.reads s s' → uses i s' = u ∧ exec i s' = .next (op s')) (hop : Respects u op)
    (hcontrol : i ≠ .hlt → i ≠ .ei → i ≠ .di → controlBits (op s) = controlBits s) (ht : exec i s = .next t) :
    Accounted i s t := by
  obtain ⟨hu, he⟩ := h s (.refl _ s)
  obtain rfl : op s = t := Host.Outcome.next.inj (he.symm.trans ht)
  subst hu
  exact ⟨hop.frame s, fun s' a => ⟨(h s' a).1, op s', (h s' a).2, hop.agree s s' a⟩, hcontrol⟩

theorem Accounted.of_computes (hu : ∀ s', uses i s' = u) (he : ∀ s', exec i s' = .next (op s')) (hop : Computes u op)
    (ht : exec i s = .next t) : Accounted i s t :=
  .of_respects (fun s' _ => ⟨hu s', he s'⟩) hop.toRespects (fun _ _ _ => hop.control s) ht

/-- A conditional call or return uses SP only when its condition is true (log 14). -/
theorem Accounted.of_condition {cond : Cond} (hu : ∀ s', uses i s' = stackIfUses cond s')
    (he : ∀ s', exec i s' = .next (if condHolds cond s'.f then op s' else s'))
    (hop : Computes ⟨[condItem cond, .sp], [.sp]⟩ op) (ht : exec i s = .next t) : Accounted i s t := by
  have same {rs : List Item} (hc : condItem cond ∈ rs) (s' : State) (a : AgreeOn rs s s') :
      condHolds cond s'.f = condHolds cond s.f := dependsOn_condHolds hc s s' a
  cases c : condHolds cond s.f with
  | true =>
    refine .of_respects (u := ⟨[condItem cond, .sp], [.sp]⟩) (fun s' a => ?_) hop.toRespects
      (fun _ _ _ => hop.control s) ht
    simp [hu, he, stackIfUses, same (by simp) s' a, c]
  | false =>
    refine .of_respects (u := ⟨[condItem cond], []⟩) (op := fun s => s) (fun s' a => ?_) Computes.id.toRespects
      (fun _ _ _ => rfl) ht
    simp [hu, he, stackIfUses, same (by simp) s' a, c]

/-- An unused code goes on only under the policy that gives it the uses and the operation of the documented instruction
(R105). -/
theorem Accounted.of_unused {code : Byte} (hu : ∀ s', uses i s' = unusedUses u s')
    (he : ∀ s', exec i s' = unusedCode code op s') (hop : Computes u op) (ht : exec i s = .next t) :
    Accounted i s t := by
  refine .of_respects (fun s' a => ?_) hop.toRespects (fun _ _ _ => hop.control s) ht
  have hparams : s'.params = s.params := dependsOn_params s s' a
  rw [he] at ht
  rw [hu, he]
  unfold unusedCode at ht ⊢
  unfold unusedUses
  rw [hparams]
  split at ht
  · cases ht
  · simp_all

end

theorem accounted_unused {i : Instr} {s t : State} (ill : i.wellFormed = false) (h : exec i s = .next t) :
    Accounted i s t := by
  have hsp : Item.sp ∈ stackUses.reads := by simp [stackUses]
  cases i with
  | unused08 | unused10 | unused18 | unused20 | unused28 | unused30 | unused38 =>
    exact .of_unused (op := fun s => s) (fun _ => rfl) (fun _ => rfl) .id h
  | unusedCB adr => exact .of_unused (fun _ => rfl) (fun _ => rfl) (computes_jumpTo adr) h
  | unusedD9 => exact .of_unused (fun _ => rfl) (fun _ => rfl) (computes_returnFrom hsp) h
  | unusedDD adr | unusedED adr | unusedFD adr =>
    exact .of_unused (fun _ => rfl) (fun _ => rfl) (computes_callTo hsp adr) h
  | _ => cases ill

/-- `exec` does what `uses` says. -/
theorem accounted_exec {i : Instr} {s t : State} (h : exec i s = .next t) : Accounted i s t := by
  have hsp : Item.sp ∈ stackUses.reads := by simp [stackUses]
  have hhl : regPairItems .hl ⊆ [.reg .h, .reg .l] := List.Subset.refl _
  cases form i with
  | mov dst src => exact .of_computes (uses_mov dst src) (exec_mov dst src) (computes_moveRegister dst src) h
  | movFromM dst =>
    exact .of_computes (uses_movFromM dst) (exec_movFromM dst) (computes_load dst (dependsOn_regHL hhl)) h
  | movToM src =>
    exact .of_computes (uses_movToM src) (exec_movToM src)
      (computes_store (dependsOn_regHL (by simp [regPairItems])) (dependsOn_getReg (by simp))) h
  | mvi dst v => exact .of_computes (uses_mvi dst v) (exec_mvi dst v) (computes_setReg dst v) h
  | mviM v =>
    exact .of_computes (uses_mviM v) (exec_mviM v) (computes_store (dependsOn_regHL hhl) (dependsOn_const v)) h
  | staxB =>
    exact .of_computes uses_staxB exec_staxB (computes_storeIndirect (by simp [regPairItems]) (by simp)) h
  | staxD =>
    exact .of_computes uses_staxD exec_staxD (computes_storeIndirect (by simp [regPairItems]) (by simp)) h
  | ldaxB => exact .of_computes uses_ldaxB exec_ldaxB (computes_loadIndirect (List.Subset.refl _)) h
  | ldaxD => exact .of_computes uses_ldaxD exec_ldaxD (computes_loadIndirect (List.Subset.refl _)) h
  | sta adr =>
    exact .of_computes (uses_sta adr) (exec_sta adr)
      (computes_store (dependsOn_const adr) (dependsOn_getReg (r := .a) (by simp))) h
  | lda adr => exact .of_computes (uses_lda adr) (exec_lda adr) (computes_load .a (dependsOn_const adr)) h
  | sphl => exact .of_computes uses_sphl exec_sphl computes_loadSpFromHl h
  | lxi p v => exact .of_computes (uses_lxi p v) (exec_lxi p v) (computes_setPair p v) h
  | shld adr => exact .of_computes (uses_shld adr) (exec_shld adr) (computes_storeHlDirect adr) h
  | lhld adr => exact .of_computes (uses_lhld adr) (exec_lhld adr) (computes_loadHlDirect adr) h
  | push p => exact .of_computes (uses_push p) (exec_push p) (computes_pushPair p) h
  | pop p => exact .of_computes (uses_pop p) (exec_pop p) (computes_popPair p) h
  | pushPSW => exact .of_computes uses_pushPSW exec_pushPSW computes_pushPsw h
  | popPSW => exact .of_computes uses_popPSW exec_popPSW computes_popPsw h
  | inN n => exact .of_computes (uses_inN n) (exec_inN n) (computes_inputFrom n) h
  | outN n => exact .of_computes (uses_outN n) (exec_outN n) (computes_outputTo n) h
  | xchg => exact .of_computes uses_xchg exec_xchg computes_exchangeHlDe h
  | xthl => exact .of_computes uses_xthl exec_xthl computes_exchangeHlStack h
  | cmc => exact .of_computes uses_cmc exec_cmc computes_complementCarry h
  | stc => exact .of_computes uses_stc exec_stc (computes_setCy true) h
  | cma => exact .of_computes uses_cma exec_cma computes_complementAccumulator h
  | daa => exact .of_computes uses_daa exec_daa computes_decimalAdjust h
  | inr o =>
    exact .of_computes (uses_inr o) (exec_inr o) (incrementOperand_eq o ▸ computes_countOperand _ _ o) h
  | dcr o =>
    exact .of_computes (uses_dcr o) (exec_dcr o) (decrementOperand_eq o ▸ computes_countOperand _ _ o) h
  | inx p => exact .of_computes (uses_inx p) (exec_inx p) (computes_incrementPair p) h
  | dcx p => exact .of_computes (uses_dcx p) (exec_dcx p) (computes_decrementPair p) h
  | alu op o => exact .of_computes (uses_alu op o) (exec_alu op o) (computes_aluWithOperand op o) h
  | aluImm op v =>
    exact .of_computes (uses_aluImm op v) (exec_aluImm op v)
      (computes_aluWithByte (by simp) (List.subset_append_right _ _) v) h
  | dad p => exact .of_computes (uses_dad p) (exec_dad p) (computes_addPairToHl p) h
  | rlc => exact .of_computes uses_rlc exec_rlc computes_rotateLeft h
  | rrc => exact .of_computes uses_rrc exec_rrc computes_rotateRight h
  | ral => exact .of_computes uses_ral exec_ral computes_rotateLeftThroughCarry h
  | rar => exact .of_computes uses_rar exec_rar computes_rotateRightThroughCarry h
  | jmp adr => exact .of_computes (uses_jmp adr) (exec_jmp adr) (computes_jumpTo adr) h
  | pchl => exact .of_computes uses_pchl exec_pchl computes_jumpToHl h
  | call adr => exact .of_computes (uses_call adr) (exec_call adr) (computes_callTo hsp adr) h
  | ret => exact .of_computes uses_ret exec_ret (computes_returnFrom hsp) h
  | jumpCond cond adr =>
    exact .of_computes (uses_jumpCond cond adr) (exec_jumpCond cond adr) (computes_jumpIf cond adr) h
  | callCond cond adr =>
    exact .of_condition (uses_callCond cond adr) (exec_callCond cond adr) (computes_callTo (by simp) adr) h
  | retCond cond => exact .of_condition (uses_retCond cond) (exec_retCond cond) (computes_returnFrom (by simp)) h
  | rst n => exact .of_computes (uses_rst n) (exec_rst n) (computes_callTo hsp (restartAddress n)) h
  | nop => exact .of_computes uses_nop exec_nop .id h
  | hlt =>
    exact .of_respects (fun s' _ => ⟨uses_hlt s', exec_hlt s'⟩) respects_halt (fun ne _ _ => absurd rfl ne) h
  | ei =>
    exact .of_respects (fun s' _ => ⟨uses_ei s', exec_ei s'⟩) respects_enableInterrupts (fun _ ne _ => absurd rfl ne) h
  | di =>
    exact .of_respects (fun s' _ => ⟨uses_di s', exec_di s'⟩) respects_disableInterrupts (fun _ _ ne => absurd rfl ne) h
  | unused _ _ _ _ ill _ => exact accounted_unused ill h

/-- Settles O34: `exec` in each form is an operation composed of ones that keep to their reads and writes. -/
theorem usesCoverEffects : Obligations.UsesCoverEffects := fun _ _ _ h =>
  ⟨(accounted_exec h).frame, (accounted_exec h).agree⟩

/-! ## Flags written (R38) -/

theorem flag_notMem_regPairItems (n : FlagName) (p : RegPair) : .flag n ∉ regPairItems p := by
  cases p <;> simp [regPairItems]

theorem flag_notMem_pairItems (n : FlagName) (p : Pair) : .flag n ∉ pairItems p := by
  cases p with
  | rp q => exact flag_notMem_regPairItems n q
  | sp => simp [pairItems]

/-- An unused code has the uses of NOP and JMP or those of CALL and RET, where it has a meaning (R105). -/
theorem uses_of_unused {i : Instr} (ill : i.wellFormed = false) :
    ∃ u, (u = noUses ∨ u = stackUses) ∧ ∀ s, uses i s = unusedUses u s := by
  cases i with
  | unused08 | unused10 | unused18 | unused20 | unused28 | unused30 | unused38 | unusedCB _ =>
    exact ⟨noUses, .inl rfl, fun _ => rfl⟩
  | unusedD9 | unusedDD _ | unusedED _ | unusedFD _ => exact ⟨stackUses, .inr rfl, fun _ => rfl⟩
  | _ => cases ill

/-- The table `uses` lists a flag among the writes only where R38 has a row. -/
theorem flag_notMem_writes {i : Instr} (h : ¬ writesFlags i) (n : FlagName) (s : State) :
    .flag n ∉ (uses i s).writes := by
  cases form i with
  | alu op o => exact absurd (.inl ⟨op, o, rfl⟩) h
  | aluImm op v => exact absurd (.inr (.inl ⟨op, v, rfl⟩)) h
  | inr o => exact absurd (.inr (.inr (.inl ⟨o, .inl rfl⟩))) h
  | dcr o => exact absurd (.inr (.inr (.inl ⟨o, .inr rfl⟩))) h
  | dad p => exact absurd (.inr (.inr (.inr (.inl ⟨p, rfl⟩)))) h
  | daa | rlc | rrc | ral | rar | stc | cmc | popPSW => exact absurd (by simp [writesFlags]) h
  | lxi p _ | inx p | dcx p => simp [stepPairUses, flag_notMem_pairItems]
  | pop p => simp [popUses, flag_notMem_regPairItems]
  | callCond _ _ | retCond _ =>
    simp only [uses_callCond, uses_retCond, stackIfUses]
    split <;> simp
  | unused _ _ _ _ ill _ =>
    obtain ⟨u, hu, e⟩ := uses_of_unused ill
    rw [e, unusedUses]
    obtain rfl | rfl := hu <;> split <;> simp [noUses, stackUses]
  | mov | movFromM | movToM | mvi | mviM | staxB | staxD | ldaxB | ldaxD | sta | lda | sphl | shld | lhld | push
  | pushPSW | inN | outN | xchg | xthl | cma | jmp | pchl | call | ret | jumpCond | rst | nop | hlt | ei | di =>
    simp [movUses, pushUses, noUses, stackUses, jumpIfUses]

/-- Settles O31: no flag is among the writes that `uses` lists, and `exec` leaves all else. -/
theorem flagsWrittenOnlyByTable : Obligations.FlagsWrittenOnlyByTable := fun _ s _ hi h =>
  flags_ext fun n => flagValue_eq_of_itemValue ((accounted_exec h).frame _ (flag_notMem_writes hi n s))

end Sys2Proof.Machine
end

section
/-! The control bits over a step (R40 to R42, R26, R325, R345): what `exec` does with INTE, EIDelay and Halted, and
then `step` by its four ways. -/

namespace Sys2Proof.Machine

theorem acceptsRequest_eq_true {s : State} : acceptsRequest s = true ↔ s.inte = true ∧ s.eiDelay = false := by
  simp [acceptsRequest]

theorem acceptsRequest_eq_false {s : State} : acceptsRequest s = false ↔ s.inte = false ∨ s.eiDelay = true := by
  simp [acceptsRequest, imp_iff_not_or]

/-! ## Instructions -/

/-- What an instruction does with INTE, EIDelay and Halted (R301 to R303). -/
theorem exec_controlBits {i : Instr} {s t : State} (h : exec i s = .next t) :
    (i = .hlt ∧ controlBits t = (s.inte, s.eiDelay, true)) ∨ (i = .ei ∧ controlBits t = (true, true, s.halted)) ∨
    (i = .di ∧ controlBits t = (false, false, s.halted)) ∨
    (i ≠ .hlt ∧ i ≠ .ei ∧ controlBits t = controlBits s) := by
  by_cases hhlt : i = .hlt
  · subst hhlt
    obtain rfl : halt s = t := Host.Outcome.next.inj h
    exact .inl ⟨rfl, rfl⟩
  by_cases hei : i = .ei
  · subst hei
    obtain rfl : enableInterrupts s = t := Host.Outcome.next.inj h
    exact .inr (.inl ⟨rfl, rfl⟩)
  by_cases hdi : i = .di
  · subst hdi
    obtain rfl : disableInterrupts s = t := Host.Outcome.next.inj h
    exact .inr (.inr (.inl ⟨rfl, rfl⟩))
  exact .inr (.inr (.inr ⟨hhlt, hei, (accounted_exec h).control hhlt hei hdi⟩))

theorem exec_halted {i : Instr} {s t : State} (h : exec i s = .next t) (hs : s.halted = false) :
    t.halted = true ↔ i = .hlt := by
  obtain ⟨rfl, e⟩ | ⟨rfl, e⟩ | ⟨rfl, e⟩ | ⟨hhlt, -, e⟩ := exec_controlBits h
  all_goals
    have bit : t.halted = _ := congrArg (fun o => o.2.2) e
    simp_all [controlBits]

theorem exec_inte {i : Instr} {s t : State} (h : exec i s = .next t) (hs : s.inte = false) (ht : t.inte = true) :
    i = .ei := by
  obtain ⟨rfl, e⟩ | ⟨rfl, e⟩ | ⟨rfl, e⟩ | ⟨-, -, e⟩ := exec_controlBits h
  all_goals
    have bit : t.inte = _ := congrArg Prod.fst e
    simp_all [controlBits]

/-! ## Steps -/

/-- A step at which neither a reset nor an accepted request happens, in the stop state. -/
theorem step_waits {s : State} (hreset : (currentInput s).reset = false)
    (hgo : (currentInput s).request = none ∨ acceptsRequest s = false) (hhalted : s.halted = true) :
    step s = .next (afterInput s) := by
  unfold step
  rw [atBoundary_go s hreset hgo, continueRun, afterInput_halted, hhalted]
  rfl

/-- What a step that runs an instruction leaves of INTE, EIDelay and Halted: step (5) of R26 clears EIDelay but after
EI. -/
theorem step_ran {s t : State} (h : step s = .next t) (hreset : (currentInput s).reset = false)
    (hgo : (currentInput s).request = none ∨ acceptsRequest s = false) (hhalted : s.halted = false) :
    ∃ u, exec (fetchInstr (afterInput s)).1 (fetchInstr (afterInput s)).2 = .next u ∧ t.inte = u.inte ∧
      t.halted = u.halted ∧ t.eiDelay = (isEnableInterrupts (fetchInstr (afterInput s)).1 && u.eiDelay) := by
  rw [step_execute s hreset hgo hhalted, finishStep_eq_next] at h
  obtain ⟨w, hw, rfl⟩ := h
  obtain ⟨-, u, hu, rfl⟩ := (checked_eq_next _ _ _ _).mp hw
  refine ⟨u, hu, ?_⟩
  cases isEnableInterrupts (fetchInstr (afterInput s)).1 <;> simp

/-- Settles O18: the boundary leads to the waiting of R325 (3). -/
theorem stopStateWaits : Obligations.StopStateWaits := fun _ hhalted hreset hgo =>
  step_waits hreset (hgo.imp_right acceptsRequest_eq_false.mpr) hhalted

/-- Settles O19: of the four ways of a step, waiting keeps the stop state and an instruction does not start in it. -/
theorem onlyResetOrInterruptLeavesStop : Obligations.OnlyResetOrInterruptLeavesStop := by
  intro s t hs h ht
  obtain ⟨hreset, -⟩ | ⟨-, haccept, bytes, target, hbytes, -⟩ | ⟨-, -, -, rfl⟩ | ⟨-, -, hrun, -⟩ := step_cases s t h
  case inl => exact .inl hreset
  case inr.inl =>
    obtain ⟨hinte, hei⟩ := acceptsRequest_eq_true.mp haccept
    exact .inr ⟨by simp [hbytes], hinte, hei⟩
  case inr.inr.inl => simp [hs] at ht
  case inr.inr.inr => simp [hs] at hrun

/-- Settles O20: the step runs one instruction, and of those HLT alone sets Halted. -/
theorem onlyHltStops : Obligations.OnlyHltStops := by
  intro s t hhalted hreset hrequest h
  obtain ⟨u, hu, -, hbit, -⟩ := step_ran h hreset (.inl hrequest) hhalted
  rw [hbit]
  exact exec_halted hu (by simp [hhalted])

/-- Settles O21: reset and interrupt entry clear INTE, waiting keeps it, and of the instructions EI alone sets it. -/
theorem onlyEiEnables : Obligations.OnlyEiEnables := by
  intro s t hs h ht
  obtain ⟨-, rfl⟩ | ⟨-, -, bytes, target, -, -, -, rfl⟩ | ⟨-, -, -, rfl⟩ | ⟨hreset, hgo, hrun, -⟩ := step_cases s t h
  case inl => simp at ht
  case inr.inl => simp at ht
  case inr.inr.inl => simp [hs] at ht
  case inr.inr.inr =>
    obtain ⟨u, hu, hbit, -, -⟩ := step_ran h hreset hgo hrun
    exact ⟨hrun, hreset, exec_inte hu (by simp [hs]) (hbit ▸ ht)⟩

/-- Settles O22: step (5) of R26 clears EIDelay after every instruction but EI, which sets it. -/
theorem eiDelayAfterStep : Obligations.EiDelayAfterStep := by
  intro s t hhalted hreset hgo h
  obtain ⟨u, hu, -, -, hbit⟩ := step_ran h hreset (hgo.imp_right acceptsRequest_eq_false.mpr) hhalted
  rw [hbit, Bool.and_eq_true, isEnableInterrupts_iff, and_iff_left_iff_imp]
  intro hei
  rw [hei] at hu
  obtain rfl := Host.Outcome.next.inj hu
  rfl

end Sys2Proof.Machine
end

section
/-! The state right after reset (R48), the byte form of the flags (R33), and the table of uses row by row (R23). -/

namespace Sys2Proof.Machine

/-- Settles O13: each field of the state after reset is the value that stands in its definition. -/
theorem resetState : Obligations.ResetState :=
  ⟨rfl, rfl, rfl, rfl, rfl, rfl, fun _ => rfl, rfl, rfl, rfl, rfl, wf_reset⟩

/-! ## The byte form of the flags -/

theorem toNat_packFlags (f : Flags) : (packFlags f).toNat =
    f.s.toNat * 128 + f.z.toNat * 64 + f.ac.toNat * 16 + f.p.toNat * 4 + 2 + f.cy.toNat := by
  obtain ⟨s, z, ac, p, cy⟩ := f
  revert s z ac p cy
  decide

/-- The bits of the byte form, bit 0 first (R33). -/
theorem getLsbD_packFlags (f : Flags) :
    ∀ k < 8, (packFlags f).getLsbD k = [f.cy, true, f.p, false, f.ac, false, f.z, f.s].getD k false := by
  obtain ⟨s, z, ac, p, cy⟩ := f
  revert s z ac p cy
  decide

/-- The bits that `unpackFlags` ignores are the ones that `packFlags` fixes. -/
theorem packFlags_unpackFlags (v : Byte) : packFlags (unpackFlags v) = (v &&& 0xD5) ||| 0x02 := by
  refine BitVec.eq_of_getLsbD_eq fun k hk => ?_
  rw [getLsbD_packFlags _ k hk]
  interval_cases k <;> simp [unpackFlags]

/-- Settles O42: the sum by the 32 flag sets, the composition bit by bit. -/
theorem flagByteLayout : Obligations.FlagByteLayout := ⟨toNat_packFlags, fun _ => rfl, packFlags_unpackFlags⟩

/-! ## The table of uses -/

theorem condTrue_iff_condHolds (cond : Cond) (f : Flags) : CondTrue cond f ↔ condHolds cond f = true := by
  cases cond <;> simp [CondTrue, condHolds]

theorem stackIfUses_of_condTrue {cond : Cond} {s : State} (h : CondTrue cond s.f) :
    stackIfUses cond s = ⟨[condItem cond, .sp], [.sp]⟩ :=
  if_pos ((condTrue_iff_condHolds cond s.f).mp h)

theorem stackIfUses_of_not_condTrue {cond : Cond} {s : State} (h : ¬ CondTrue cond s.f) :
    stackIfUses cond s = ⟨[condItem cond], []⟩ :=
  if_neg (mt (condTrue_iff_condHolds cond s.f).mpr h)

/-- Settles O33: each row is the equation of `uses` for that form, written out. -/
theorem usesFollowTables : Obligations.UsesFollowTables := by
  intro r q p x o cond v w n s
  refine ⟨uses_mov r q s, uses_mvi r v s, uses_movFromM r s, uses_movToM r s, uses_mviM v s, uses_sphl s,
    uses_ldaxB s, uses_ldaxD s, uses_staxB s, uses_staxD s, uses_lda w s, uses_sta w s, uses_lxi x w s,
    uses_lhld w s, uses_shld w s, uses_push p s, uses_pop p s, uses_pushPSW s, uses_popPSW s, uses_inN v s,
    uses_outN v s, uses_xchg s, uses_xthl s, ?count, ?countM, ?stepPair, uses_cma s, uses_stc s, uses_cmc s,
    uses_daa s, ?alu, ?aluCarry, ?cmp, uses_aluImm .cmp v s, uses_dad x s, ?rotate, ?rotateCarry,
    uses_jumpCond cond w s, uses_pchl s, ?stack, ?stackIf, ?none⟩
  case count => simp [countUses, operandItems, targetItems, countFlagItems]
  case countM => simp [countUses, operandItems, targetItems, countFlagItems]
  case stepPair => simp [stepPairUses]
  case alu => simp [aluUses, aluByteUses, carryItems, resultItems]
  case aluCarry => simp [aluUses, aluByteUses, carryItems, resultItems]
  case cmp => simp [aluUses, carryItems, resultItems]
  case rotate => simp
  case rotateCarry => simp
  case stack => simp [stackUses]
  case stackIf => simpa using ⟨stackIfUses_of_condTrue, stackIfUses_of_not_condTrue⟩
  case none => simp [noUses]

end Sys2Proof.Machine
end

section
/-! A step as the decoded instruction (R26, R66, R107): the fetch reads the bytes that `decode` is given. -/

namespace Sys2Proof.Machine

theorem fetch8_of_readsCell {s : State} (h : ReadsCell s s.pc) :
    fetch8 s = (readCell s.mem s.pc.toNat, { s with pc := s.pc + 1 }) := by
  simp [fetch8, memRead_of_readsCell s.pc s h]

theorem fetch16_of_readsCell {s : State} (h : ReadsCell s s.pc) (h' : ReadsCell s (s.pc + 1)) :
    fetch16 s = (joinBytes (readCell s.mem (s.pc + 1).toNat) (readCell s.mem s.pc.toNat), { s with pc := s.pc + 2 }) := by
  have second : ReadsCell { s with pc := s.pc + 1 } (s.pc + 1) := h'
  have pcTwice : s.pc + 1 + 1 = s.pc + 2 := BitVec.add_assoc s.pc 1 1
  simp only [fetch16, fetch8_of_readsCell h]
  rw [fetch8_of_readsCell second]
  simp only [pcTwice]

/-- Where the three bytes from PC on can be read without side effect, the fetch finds the instruction they decode to,
and PC passes its bytes (R66, R107). -/
theorem fetchInstr_of_decode {s : State} {i : Instr} {rest : List Byte} (h : ReadsCell s s.pc)
    (h1 : ReadsCell s (s.pc + 1)) (h2 : ReadsCell s (s.pc + 2))
    (hd : decode [readCell s.mem s.pc.toNat, readCell s.mem (s.pc + 1).toNat, readCell s.mem (s.pc + 2).toNat] =
      .ok (i, rest)) (hi : i.wellFormed = true) :
    fetchInstr s = (i, { s with pc := s.pc + BitVec.ofNat 16 (encode i).length }) := by
  have pcTwice : s.pc + 1 + 1 = s.pc + 2 := BitVec.add_assoc s.pc 1 1
  have second : ReadsCell { s with pc := s.pc + 1 } (s.pc + 1) := h1
  have third : ReadsCell { s with pc := s.pc + 1 } (s.pc + 1 + 1) := pcTwice ▸ h2
  have agrees := shapeAgrees (readCell s.mem s.pc.toNat)
  unfold fetchInstr
  rw [fetch8_of_readsCell h]
  dsimp only
  cases shape : shapeOf (readCell s.mem s.pc.toNat) with
  | one j =>
    rw [shape] at agrees
    simp only [decode, shape, Except.ok.injEq, Prod.mk.injEq] at hd
    obtain ⟨rfl, -⟩ := hd
    have code : encode j = [readCell s.mem s.pc.toNat] := agrees
    simp [code]
  | two f =>
    rw [shape] at agrees
    simp only [decode, shape, Except.ok.injEq, Prod.mk.injEq] at hd
    obtain ⟨rfl, -⟩ := hd
    have code : ∀ v, encode (f v) = [readCell s.mem s.pc.toNat, v] := agrees
    dsimp only
    rw [fetch8_of_readsCell second]
    simp [code, BitVec.add_assoc]
  | three f =>
    rw [shape] at agrees
    simp only [decode, shape, Except.ok.injEq, Prod.mk.injEq] at hd
    obtain ⟨rfl, -⟩ := hd
    have code : ∀ w, encode (f w) = readCell s.mem s.pc.toNat :: wordBytes w := agrees
    dsimp only
    rw [fetch16_of_readsCell second third]
    simp [code, wordBytes, BitVec.add_assoc]
  | unusedThree f =>
    rw [shape] at agrees
    simp only [decode, shape, Except.ok.injEq, Prod.mk.injEq] at hd
    obtain ⟨rfl, -⟩ := hd
    have ill : ∀ w, (f w).wellFormed = false := fun w => (agrees w).2
    simp [ill] at hi

/-- Settles O12: the boundary leads to an instruction, the fetch finds `i`, and the check of R351 passes. -/
theorem stepRunsDecodedInstruction : Obligations.StepRunsDecodedInstruction := by
  intro s i rest hhalted hreset hrequest h h1 h2 hd hi hmay
  obtain ⟨v, hv⟩ : ∃ v, v = { s with pc := s.pc + BitVec.ofNat 16 (encode i).length, inputs := s.inputs.tail } :=
    ⟨_, rfl⟩
  have fetched : fetchInstr (afterInput s) = (i, v) :=
    hv ▸ fetchInstr_of_decode (s := afterInput s) h h1 h2 hd hi
  have used : uses i v = uses i s := uses_congr i s v (by rw [hv]) (by rw [hv])
  have passes : MayRead (uses i s).reads v := by
    rw [hv]
    exact hmay
  rw [← hv, step_execute s hreset (.inl hrequest) hhalted, fetched]
  dsimp only
  rw [used, checked_pass _ _ _ passes]
  cases exec i v with
  | next t =>
    by_cases hei : i = .ei
    · subst hei
      rfl
    · simp [isEnableInterrupts_iff, hei, markItems]
  | fault r => rfl
  | refused r => rfl

end Sys2Proof.Machine
end

section
/-! Memory over a step (R60, R62, R63, R82, R83): a byte read and a byte written by the kind of the address, Push16 and
Pop16, and the relation `StoresInRam`, which every step keeps and from which the canonical form and the bytes outside
`ram` follow. -/

namespace Sys2Proof.Machine

/-! ## Memory as a step leaves it -/

/-- `m'` is `m` after one byte is stored at an address that is `ram` under the parameters `p` (R63). -/
def RamStore (p : Params) (m m' : Memory) : Prop :=
  ∃ (a : Word) (v : Byte), memKind p a = .ram ∧ m' = writeCell m a.toNat v

/-- `t` has the parameters of `s`, and its memory is that of `s` after some stores at `ram` addresses. -/
structure StoresInRam (s t : State) : Prop where
  params : t.params = s.params
  mem : Relation.ReflTransGen (RamStore s.params) s.mem t.mem

theorem StoresInRam.of_same {s t : State} (hp : t.params = s.params) (hm : t.mem = s.mem) : StoresInRam s t :=
  ⟨hp, hm ▸ .refl⟩

theorem StoresInRam.refl (s : State) : StoresInRam s s := .of_same rfl rfl

theorem StoresInRam.trans {s t u : State} (h : StoresInRam s t) (k : StoresInRam t u) : StoresInRam s u :=
  ⟨k.params.trans h.params, h.mem.trans (h.params ▸ k.mem)⟩

/-- What follows may change anything but the parameters and the memory. -/
theorem StoresInRam.keep {s t u : State} (h : StoresInRam s t) (hp : u.params = t.params) (hm : u.mem = t.mem) :
    StoresInRam s u :=
  h.trans (.of_same hp hm)

/-- Stores at `ram` addresses keep the canonical form. -/
theorem wf_of_ramStores {p : Params} {m m' : Memory} (h : Relation.ReflTransGen (RamStore p) m m') (hm : m.wf) :
    m'.wf := by
  induction h with
  | refl => exact hm
  | tail _ last ih =>
    obtain ⟨a, v, -, rfl⟩ := last
    exact wf_writeCell _ a.toNat v ih a.isLt

/-- Stores at `ram` addresses leave every byte at an address of another kind. -/
theorem readCell_of_ramStores {p : Params} {m m' : Memory} (h : Relation.ReflTransGen (RamStore p) m m') {b : Word}
    (hb : memKind p b ≠ .ram) : readCell m' b.toNat = readCell m b.toNat := by
  induction h with
  | refl => rfl
  | tail _ last ih =>
    obtain ⟨a, v, ha, rfl⟩ := last
    have elsewhere : b.toNat ≠ a.toNat := fun e => hb (BitVec.eq_of_toNat_eq e ▸ ha)
    rw [readCell_writeCell_ne _ _ _ _ elsewhere, ih]

/-! ## The operations that store -/

theorem storesInRam_memWrite (a : Word) (v : Byte) (s : State) : StoresInRam s (memWrite a v s) := by
  rw [memWrite_eq]
  cases kind : memKind s.params a with
  | ram => exact ⟨rfl, .single ⟨a, v, kind, rfl⟩⟩
  | rom | absent | device => exact .of_same rfl rfl

theorem storesInRam_memWrite_two (a b : Word) (v w : Byte) (s : State) :
    StoresInRam s (memWrite b w (memWrite a v s)) :=
  (storesInRam_memWrite a v s).trans (storesInRam_memWrite b w _)

theorem storesInRam_set8 (o : Operand8) (v : Byte) (s : State) : StoresInRam s (set8 o v s) := by
  cases o with
  | reg r => exact .of_same (setReg_params r v s) (setReg_mem r v s)
  | m => exact storesInRam_memWrite (regHL s) v s

/-- INR and DCR read the operand, change the flags and write the operand back (R184, R185). -/
theorem storesInRam_updateOperand (o : Operand8) (v : Byte) (f : Flags) (s : State) :
    StoresInRam s (set8 o v { (get8 o s).2 with f := f }) :=
  have read : StoresInRam s { (get8 o s).2 with f := f } := .of_same (get8_params o s) (get8_mem o s)
  read.trans (storesInRam_set8 o v _)

theorem storesInRam_push16 (v : Word) (s : State) : StoresInRam s (push16 v s) :=
  (storesInRam_memWrite_two _ _ _ _ s).keep rfl rfl

theorem storesInRam_callTo (target : Word) (s : State) : StoresInRam s (callTo target s) :=
  (storesInRam_push16 s.pc s).keep rfl rfl

theorem storesInRam_enterInterrupt (target : Word) (s : State) : StoresInRam s (enterInterrupt target s) :=
  have entry : StoresInRam s (beginEntry s) := .of_same rfl rfl
  (entry.trans (storesInRam_callTo target _)).keep rfl rfl

theorem storesInRam_exchangeHlStack (s : State) : StoresInRam s (exchangeHlStack s) :=
  have reads : StoresInRam s (memRead (s.sp + 1) (memRead s.sp s).2).2 := .of_same (by simp) (by simp)
  (reads.trans (storesInRam_memWrite_two _ _ _ _ _)).keep rfl rfl

/-! ## The operations that only read -/

/-- MOV r,M, LDAX and LDA read a byte into a register (R121, R124, R126). -/
theorem storesInRam_loadReg (r : Reg) (a : Word) (s : State) :
    StoresInRam s (setReg r (memRead a s).1 (memRead a s).2) :=
  .of_same (by simp) (by simp)

theorem storesInRam_popPair (p : RegPair) (s : State) : StoresInRam s (popPair p s) :=
  .of_same (by simp [popPair]) (by simp [popPair])

theorem storesInRam_inputFrom (n : Byte) (s : State) : StoresInRam s (inputFrom n s) :=
  .of_same (by simp [inputFrom, ioRead_eq]) (by simp [inputFrom, ioRead_eq])

theorem storesInRam_returnFrom (s : State) : StoresInRam s (returnFrom s) :=
  .of_same (returnFrom_params s) (returnFrom_mem s)

/-! ## Instructions and steps -/

/-- An operation that is done or left out by a condition. -/
theorem storesInRam_ite {s t : State} (c : Bool) (h : StoresInRam s t) : StoresInRam s (if c then t else s) := by
  cases c with
  | true => exact h
  | false => exact .refl s

/-- Lets each form of an instruction be settled on the operation its `exec` equation names. -/
theorem StoresInRam.of_next {o : Result} {s t u : State} (e : o = .next u) (h : o = .next t) (k : StoresInRam s u) :
    StoresInRam s t := by
  obtain rfl : u = t := Host.Outcome.next.inj (e.symm.trans h)
  exact k

theorem storesInRam_exec {i : Instr} {s t : State} (h : exec i s = .next t) : StoresInRam s t := by
  cases form i with
  -- stores
  | movToM src => exact .of_next (exec_movToM src s) h (storesInRam_memWrite _ _ s)
  | mviM v => exact .of_next (exec_mviM v s) h (storesInRam_memWrite _ _ s)
  | staxB => exact .of_next (exec_staxB s) h (storesInRam_memWrite _ _ s)
  | staxD => exact .of_next (exec_staxD s) h (storesInRam_memWrite _ _ s)
  | sta adr => exact .of_next (exec_sta adr s) h (storesInRam_memWrite _ _ s)
  | shld adr => exact .of_next (exec_shld adr s) h (storesInRam_memWrite_two _ _ _ _ s)
  | push p => exact .of_next (exec_push p s) h (storesInRam_push16 _ s)
  | pushPSW => exact .of_next (exec_pushPSW s) h (storesInRam_push16 _ s)
  | xthl => exact .of_next (exec_xthl s) h (storesInRam_exchangeHlStack s)
  | inr o => exact .of_next (exec_inr o s) h (storesInRam_updateOperand o _ _ s)
  | dcr o => exact .of_next (exec_dcr o s) h (storesInRam_updateOperand o _ _ s)
  | call adr => exact .of_next (exec_call adr s) h (storesInRam_callTo adr s)
  | callCond cond adr => exact .of_next (exec_callCond cond adr s) h (storesInRam_ite _ (storesInRam_callTo adr s))
  | rst n => exact .of_next (exec_rst n s) h (storesInRam_callTo _ s)
  -- reads
  | movFromM dst => exact .of_next (exec_movFromM dst s) h (storesInRam_loadReg dst _ s)
  | ldaxB => exact .of_next (exec_ldaxB s) h (storesInRam_loadReg .a _ s)
  | ldaxD => exact .of_next (exec_ldaxD s) h (storesInRam_loadReg .a _ s)
  | lda adr => exact .of_next (exec_lda adr s) h (storesInRam_loadReg .a _ s)
  | lhld adr => exact .of_next (exec_lhld adr s) h ((storesInRam_loadReg .l _ s).trans (storesInRam_loadReg .h _ _))
  | pop p => exact .of_next (exec_pop p s) h (storesInRam_popPair p s)
  | popPSW => exact .of_next (exec_popPSW s) h (.of_same (pop16_params s) (pop16_mem s))
  | alu op o => exact .of_next (exec_alu op o s) h (.of_same (get8_params o s) (get8_mem o s))
  | inN n => exact .of_next (exec_inN n s) h (storesInRam_inputFrom n s)
  | ret => exact .of_next (exec_ret s) h (storesInRam_returnFrom s)
  | retCond cond => exact .of_next (exec_retCond cond s) h (storesInRam_ite _ (storesInRam_returnFrom s))
  -- neither
  | mov dst src => exact .of_next (exec_mov dst src s) h (.of_same (setReg_params dst _ s) (setReg_mem dst _ s))
  | mvi dst v => exact .of_next (exec_mvi dst v s) h (.of_same (setReg_params dst v s) (setReg_mem dst v s))
  | lxi p v => exact .of_next (exec_lxi p v s) h (.of_same (setPair_params p v s) (setPair_mem p v s))
  | inx p => exact .of_next (exec_inx p s) h (.of_same (setPair_params p _ s) (setPair_mem p _ s))
  | dcx p => exact .of_next (exec_dcx p s) h (.of_same (setPair_params p _ s) (setPair_mem p _ s))
  | aluImm op v => exact .of_next (exec_aluImm op v s) h (.of_same rfl rfl)
  | dad p => exact .of_next (exec_dad p s) h (.of_same rfl rfl)
  | jumpCond cond adr => exact .of_next (exec_jumpCond cond adr s) h (storesInRam_ite _ (.of_same rfl rfl))
  | sphl | outN | xchg | cmc | stc | cma | daa | rlc | rrc | ral | rar | jmp | pchl | nop | hlt | ei | di =>
    exact .of_next rfl h (.of_same rfl rfl)
  | unused _ code documented run ill one =>
    obtain rfl := unusedCode_eq_next ((run s).symm.trans h)
    obtain rfl | ⟨adr, rfl⟩ | ⟨adr, rfl⟩ | rfl := one
    · exact .refl s
    · exact .of_same rfl rfl
    · exact storesInRam_callTo adr s
    · exact storesInRam_returnFrom s

/-- Of the four ways of a step (R325), reset and waiting do not touch memory. -/
theorem storesInRam_step {s t : State} (h : step s = .next t) : StoresInRam s t := by
  obtain ⟨-, rfl⟩ | ⟨-, -, bytes, target, -, -, -, rfl⟩ | ⟨-, -, -, rfl⟩ | ⟨-, -, -, u, hu, -, rfl⟩ := step_cases s t h
  case inl => exact .of_same rfl rfl
  case inr.inl =>
    have taken : StoresInRam s (afterInput s) := .of_same rfl rfl
    exact (taken.trans (storesInRam_enterInterrupt target _)).keep rfl rfl
  case inr.inr.inl => exact .of_same rfl rfl
  case inr.inr.inr =>
    have fetched : StoresInRam s (fetchInstr (afterInput s)).2 := .of_same (by simp) (by simp)
    have ran : StoresInRam s u := fetched.trans (storesInRam_exec hu)
    split
    · exact ran.keep rfl rfl
    · exact ran.keep rfl rfl

/-- Settles O15: stores at `ram` addresses keep the canonical form. -/
theorem stepKeepsMemoryForm : Obligations.StepKeepsMemoryForm := fun _ _ hs h =>
  wf_of_ramStores (storesInRam_step h).mem hs

/-- Settles O16: stores at `ram` addresses leave every other byte. -/
theorem onlyRamChanges : Obligations.OnlyRamChanges := fun _ _ _ h hb =>
  readCell_of_ramStores (storesInRam_step h).mem hb

/-! ## One read, one write -/

/-- Settles O6: `memRead_eq` at the kind each clause names; without regions no search finds one. -/
theorem memReadByKind : Obligations.MemReadByKind := by
  refine fun a s => ⟨memRead_of_readsCell a s, fun habsent => ?_, fun hdevice => ⟨_, rfl, ?_⟩, fun hmap => ?_⟩
  · rw [memRead_eq, habsent]
  · rw [memRead_eq, hdevice]
  · simp [memKind, hmap]

/-- Settles O7: `memWrite_eq` at the kind each clause names. -/
theorem memWriteByKind : Obligations.MemWriteByKind := by
  refine fun a v s => ⟨fun hram => ⟨?_, fun n hn => ?_, ?_⟩, fun hkeeps => ?_, fun hdevice => ?_⟩
  · rw [readCell_memWrite, if_pos ⟨hram, rfl⟩]
  · rw [readCell_memWrite, if_neg fun h => hn a (by simp) h.2]
  · have kind : memKind s.params a = .ram := hram
    rw [memWrite_eq, kind]
  · rcases hkeeps with hrom | habsent
    · rw [memWrite_eq, hrom]
    · rw [memWrite_eq, habsent]
  · rw [memWrite_eq, hdevice]

/-- Settles O8: both reads return the cell, and the write changes the one cell. -/
theorem ramReadReturnsLastWrite : Obligations.RamReadReturnsLastWrite := by
  intro a b v s ha hb
  have after : ReadsCell (memWrite a v s) b := by
    unfold ReadsCell
    rw [memWrite_params]
    exact hb
  rw [memRead_of_readsCell b _ after, memRead_of_readsCell b s hb]
  dsimp only
  rw [readCell_memWrite]
  have kind : memKind s.params a = .ram := ha
  simp [kind, BitVec.toNat_inj]

/-! ## Push16 and Pop16 -/

/-- Settles O9: the stores are `storesBytes_push16`; SP alone of the rest changes. -/
theorem pushStoresWord : Obligations.PushStoresWord := fun v s =>
  ⟨push16_sp v s, storesBytes_push16 v s, fun r => getReg_push16 r v s, push16_f v s, push16_pc v s,
    push16_inte v s, push16_eiDelay v s, push16_halted v s, push16_inputs v s, push16_params v s, push16_written v s⟩

/-- A pop after a push into two `ram` cells finds the bytes that were stored (R83). -/
theorem pop16_push16 (v : Word) (s : State) (hhigh : IsRam s (s.sp - 1)) (hlow : IsRam s (s.sp - 2)) :
    pop16 (push16 v s) = (v, { push16 v s with sp := s.sp }) := by
  obtain ⟨stored, -⟩ := storesBytes_push16 v s
  have high : readCell (push16 v s).mem (s.sp - 1).toNat = highByte v := stored (s.sp - 1, highByte v) (by simp) hhigh
  have low : readCell (push16 v s).mem (s.sp - 2).toNat = lowByte v := stored (s.sp - 2, lowByte v) (by simp) hlow
  have next : s.sp - 2 + 1 = s.sp - 1 := by bv_omega
  have restored : s.sp - 2 + 2 = s.sp := BitVec.sub_add_cancel s.sp 2
  have readsLow : ReadsCell (push16 v s) (push16 v s).sp := .inl (by rw [push16_params]; exact hlow)
  have readsHigh : ReadsCell (push16 v s) ((push16 v s).sp + 1) :=
    .inl (by rw [push16_params, push16_sp, next]; exact hhigh)
  rw [pop16_of_readsCell _ readsLow readsHigh, push16_sp, next, restored, high, low, joinBytes_halves]

/-- Settles O10: `pop16` is the two reads as it stands; the rest is `pop16_push16`. -/
theorem popReadsWord : Obligations.PopReadsWord := by
  refine ⟨fun s => ⟨_, _, rfl, rfl, rfl, rfl, fun n => ?_⟩, fun v s hhigh hlow => ?_⟩
  · rw [pop16_mem]
  · rw [pop16_push16 v s hhigh hlow]
    exact ⟨rfl, rfl⟩

end Sys2Proof.Machine
end

section
/-! Decoder against encoder (R90 to R101, R105, R107): which operand bytes and which instruction a cell of the opcode
map allows, said once as `Shape.Makes`. The decoder reads by this relation (`decode_eq_ok_iff`), the encoder writes by
it (`encode_of_makes`, from `shapeAgrees`), and every instruction stands in the cell of its own first byte
(`makes_encode`); the two round trips follow. -/

namespace Sys2Proof

/-! ## Operand bytes -/

@[simp] theorem wordBytes_joinBytes (hi lo : Byte) : wordBytes (joinBytes hi lo) = [lo, hi] := by
  simp [wordBytes]

/-! ## What a cell of the map makes of operand bytes -/

/-- A cell of the opcode map with the operand bytes behind the first byte makes the instruction: no byte in format F1,
one in F2, the two of a word in F3 and in the unused codes of length 3 (R91 to R93, R100). -/
inductive Shape.Makes : Shape → List Byte → Instr → Prop where
  | one (i : Instr) : Makes (.one i) [] i
  | two (f : Byte → Instr) (v : Byte) : Makes (.two f) [v] (f v)
  | three (f : Word → Instr) (w : Word) : Makes (.three f) (wordBytes w) (f w)
  | unusedThree (f : Word → Instr) (w : Word) : Makes (.unusedThree f) (wordBytes w) (f w)

/-- Two bytes behind the first one are enough for every cell. -/
theorem Shape.exists_makes (shape : Shape) (b2 b3 : Byte) :
    ∃ operands rest i, [b2, b3] = operands ++ rest ∧ shape.Makes operands i := by
  have word : [b2, b3] = wordBytes (joinBytes b3 b2) ++ [] := by simp
  cases shape with
  | one i => exact ⟨[], [b2, b3], i, rfl, .one i⟩
  | two f => exact ⟨[b2], [b3], f b2, rfl, .two f b2⟩
  | three f => exact ⟨_, [], _, word, .three f _⟩
  | unusedThree f => exact ⟨_, [], _, word, .unusedThree f _⟩

/-! ## The decoder -/

theorem decode_of_makes {op : Byte} {operands : List Byte} {i : Instr} (h : (shapeOf op).Makes operands i)
    (rest : List Byte) : decode (op :: (operands ++ rest)) = .ok (i, rest) := by
  generalize shape : shapeOf op = cell at h
  cases h with
  | one => simp [decode, shape]
  | two => simp [decode, shape]
  | three => simp [decode, shape, wordBytes]
  | unusedThree => simp [decode, shape, wordBytes]

/-- The decoder answers exactly what the cell of the first byte makes of the bytes behind it (R90). -/
theorem decode_eq_ok_iff {bytes rest : List Byte} {i : Instr} :
    decode bytes = .ok (i, rest) ↔
      ∃ op operands, bytes = op :: (operands ++ rest) ∧ (shapeOf op).Makes operands i := by
  constructor
  · intro h
    unfold decode at h
    split at h
    case h_1 => cases h
    case h_2 op tail =>
      split at h
      case h_1 j shape =>
        cases h
        exact ⟨op, [], rfl, shape ▸ .one _⟩
      case h_2 f b2 tail shape =>
        cases h
        exact ⟨op, [b2], rfl, shape ▸ .two f b2⟩
      case h_3 f b2 b3 tail shape =>
        cases h
        exact ⟨op, wordBytes (joinBytes b3 b2), by simp, shape ▸ .three f _⟩
      case h_4 f b2 b3 tail shape =>
        cases h
        exact ⟨op, wordBytes (joinBytes b3 b2), by simp, shape ▸ .unusedThree f _⟩
      case h_5 => cases h
  · rintro ⟨op, operands, rfl, h⟩
    exact decode_of_makes h rest

/-! ## The encoder -/

/-- The field patterns of R94 to R98 give back the first byte and the operand bytes that the map reads. -/
theorem encode_of_makes {op : Byte} {operands : List Byte} {i : Instr} (h : (shapeOf op).Makes operands i) :
    encode i = op :: operands := by
  have agrees := shapeAgrees op
  generalize shapeOf op = cell at h agrees
  cases h with
  | one => exact agrees
  | two f v => exact agrees v
  | three f w => exact agrees w
  | unusedThree f w => exact (agrees w).1

/-- The first byte of an instruction's encoding. -/
def firstByte (i : Instr) : Byte := (encode i).headD 0x00

theorem firstByte_of_makes {op : Byte} {operands : List Byte} {i : Instr} (h : (shapeOf op).Makes operands i) :
    firstByte i = op := by
  rw [firstByte, encode_of_makes h, List.headD_cons]

/-- Every instruction stands in the map, in the cell of its own first byte: with the encoding written out that byte has
no operand in it, and the cell it selects names the constructor of `Shape.Makes`. -/
theorem makes_encode (i : Instr) : (shapeOf (firstByte i)).Makes (encode i).tail i := by
  cases i <;> dsimp only [firstByte, encode, List.headD_cons, List.tail_cons] <;> constructor

/-- Settles O1: the cell of the first byte makes the instruction, so its bytes are those the decoder reads there. -/
theorem decodeEncodeRoundTrip : Obligations.DecodeEncodeRoundTrip := by
  intro i rest
  have h := makes_encode i
  rw [encode_of_makes h]
  exact decode_of_makes h rest

/-- Settles O2: the decoder read by a cell of the map, and the encoder writes that cell's bytes. -/
theorem encodeReturnsDecodedBytes : Obligations.EncodeReturnsDecodedBytes := by
  intro bytes i rest h
  obtain ⟨op, operands, rfl, makes⟩ := decode_eq_ok_iff.1 h
  rw [encode_of_makes makes, List.cons_append]

/-! ## Single codes -/

/-- Settles O3: each code's cell of the map, with the operand bytes it asks for. -/
theorem quotedOpcodesDecode : Obligations.QuotedOpcodesDecode :=
  ⟨rfl, fun _ => rfl, fun _ _ => rfl, rfl, fun _ _ => rfl, rfl⟩

/-- Settles O4, over the 256 cells of the map. -/
theorem opcodeLengths : Obligations.OpcodeLengths := by
  unfold Obligations.OpcodeLengths
  decide

/-- The instructions that the set does not have are those whose first byte is an unused code (R105). -/
theorem wellFormed_eq_false_iff (i : Instr) : i.wellFormed = false ↔ firstByte i ∈ Machine.unusedCodes := by
  have h : i.wellFormed = !Machine.unusedCodes.contains (firstByte i) := by cases i <;> rfl
  simp [h]

/-- Settles O5: any first byte with two bytes behind it makes an instruction, and that byte is its `firstByte`. -/
theorem unusedCodesAreTwelve : Obligations.UnusedCodesAreTwelve := by
  refine ⟨rfl, by decide, fun op b2 b3 => ?_⟩
  obtain ⟨operands, rest, i, bytes, makes⟩ := (shapeOf op).exists_makes b2 b3
  refine ⟨i, rest, ?_, ?_⟩
  · rw [bytes]
    exact decode_of_makes makes rest
  · rw [wellFormed_eq_false_iff, firstByte_of_makes makes]

end Sys2Proof
end

section
/-! The unused codes where the policy gives them a meaning (R105): each goes on as the instruction R105 names for it. -/

namespace Sys2Proof.Machine

theorem unusedCode_of_aliased {s : State} (h : s.params.undefOpcode = .aliased) (code : Byte)
    (documented : State → State) : unusedCode code documented s = .next (documented s) := by
  simp [unusedCode, h]

theorem sameControl_callTo (adr : Word) (s : State) : SameControl s (callTo adr s) := by
  simp [SameControl]

/-- Settles O29: the operations that R105 names are `noOperation`, `jumpTo`, `returnFrom` and `callTo`, whose effects
`returns_returnFrom` and `calls_callTo` state. -/
theorem unusedCodeRunsAsDocumented : Obligations.UnusedCodeRunsAsDocumented := by
  intro s adr h
  have runs := unusedCode_of_aliased h
  have called := And.intro (calls_callTo adr s) (sameControl_callTo adr s)
  refine ⟨?_, runs 0xCB (jumpTo adr), ⟨_, runs 0xD9 returnFrom, returns_returnFrom s⟩, ?_⟩
  · simp only [List.forall_mem_cons]
    exact ⟨runs 0x08 noOperation, runs 0x10 noOperation, runs 0x18 noOperation, runs 0x20 noOperation,
      runs 0x28 noOperation, runs 0x30 noOperation, runs 0x38 noOperation, List.forall_mem_nil _⟩
  · simp only [List.forall_mem_cons]
    exact ⟨⟨_, runs 0xDD (callTo adr), called⟩, ⟨_, runs 0xED (callTo adr), called⟩,
      ⟨_, runs 0xFD (callTo adr), called⟩, List.forall_mem_nil _⟩

end Sys2Proof.Machine
end

section
/-! Transfers of one byte and of an immediate word (R120 to R129, R140). An instruction's code is its encoding
(`encodedAs_of_encode`); every destination is one of three: registers (`KeepsBut.setReg`, after a read from memory
`loadReg_effect`), a cell (`storeByte_effect`), or SP. -/

namespace Sys2Proof.Machine

/-! ## Codes -/

/-- The decoder takes the bytes of an encoding back to the instruction (`decodeEncodeRoundTrip`). -/
theorem encodedAs_of_encode {i : Instr} {bytes : List Byte} (h : encode i = bytes) : EncodedAs i bytes :=
  ⟨h, fun rest => h ▸ decodeEncodeRoundTrip i rest⟩

theorem encode_mov (dst src : Reg) : encode (.mov dst src) = [0b01#2 ++ regCode dst ++ regCode src] := by
  cases dst <;> cases src <;> rfl

theorem encode_movFromM (dst : Reg) : encode (.movFromM dst) = [0b01#2 ++ regCode dst ++ 0b110#3] := by
  cases dst <;> rfl

theorem encode_movToM (src : Reg) : encode (.movToM src) = [0b01#2 ++ 0b110#3 ++ regCode src] := by
  cases src <;> rfl

theorem encode_mvi (dst : Reg) (v : Byte) : encode (.mvi dst v) = [0b00#2 ++ regCode dst ++ 0b110#3, v] := by
  cases dst <;> rfl

theorem encode_lxi (p : Pair) (w : Word) :
    encode (.lxi p w) = [0b00#2 ++ pairCode p ++ 0b0001#4, lowByte w, highByte w] := by
  rcases p with (_ | _ | _) | _ <;> rfl

/-! ## Frames -/

theorem KeepsBut.refl (rs : List Reg) (s : State) : KeepsBut rs s s s := by
  simp [KeepsBut, SameRegsBut, SameControl, SameBytes, SameEvents]

/-- A read changes nothing but what passes between the processor and its environment (R62). -/
theorem keepsBut_memRead (rs : List Reg) (a : Word) (s : State) : KeepsBut rs s (memRead a s).2 (memRead a s).2 := by
  simp [KeepsBut, SameRegsBut, SameControl, SameBytes, SameEvents]

/-- A listed register may be written. -/
theorem KeepsBut.setReg {rs : List Reg} {s r t : State} {q : Reg} (h : KeepsBut rs s r t) (hq : q ∈ rs) (v : Byte) :
    KeepsBut rs s r (setReg q v t) := by
  obtain ⟨regs, hsp, hpc, control, bytes, events⟩ := h
  refine ⟨fun p hp => ?_, ?_, ?_, ?_, ?_, ?_⟩
  · have other : p ≠ q := (ne_of_mem_of_not_mem hq hp).symm
    rw [getReg_setReg_ne q p v t other, regs p hp]
  · rwa [setReg_sp]
  · rwa [setReg_pc]
  · simpa [SameControl] using control
  · simpa [SameBytes] using bytes
  · simpa [SameEvents] using events

/-! ## Effects of the operations -/

theorem changesOnlyRegs_setReg (r : Reg) (v : Byte) (s : State) : ChangesOnlyRegs [r] s (setReg r v s) :=
  ⟨(KeepsBut.refl [r] s).setReg (by simp) v, setReg_f r v s⟩

/-- A pair is written as its two halves (R21). -/
theorem changesOnlyRegs_setReg_two (hi lo : Reg) (v w : Byte) (s : State) :
    ChangesOnlyRegs [hi, lo] s (setReg lo w (setReg hi v s)) :=
  ⟨((KeepsBut.refl [hi, lo] s).setReg (by simp) v).setReg (by simp) w, by simp⟩

/-- A byte of memory read into a register: MOV r,M, LDAX and LDA (R121, R124, R126). -/
theorem loadReg_effect (r : Reg) (a : Word) (s : State) :
    getReg r (setReg r (memRead a s).1 (memRead a s).2) = (memRead a s).1 ∧
      KeepsBut [r] s (memRead a s).2 (setReg r (memRead a s).1 (memRead a s).2) ∧
      (setReg r (memRead a s).1 (memRead a s).2).f = s.f :=
  ⟨getReg_setReg_same r _ _, (keepsBut_memRead [r] a s).setReg (by simp) _, by simp⟩

/-- A byte written to memory: MOV M,r, MVI M, STAX and STA (R122, R123, R125, R128). -/
theorem storeByte_effect (a : Word) (v : Byte) (s : State) :
    StoresBytes [(a, v)] s (memWrite a v s) ∧ SameRegs s (memWrite a v s) ∧ (memWrite a v s).f = s.f ∧
      (memWrite a v s).sp = s.sp ∧ (memWrite a v s).pc = s.pc ∧ SameControl s (memWrite a v s) :=
  ⟨storesBytes_memWrite a v s, fun r => getReg_memWrite r a v s, memWrite_f a v s, memWrite_sp a v s,
    memWrite_pc a v s, by simp [SameControl]⟩

/-! ## The instructions -/

/-- Settles O36: a register or the two halves of a pair are written by `setReg`, SP as a field. -/
theorem registerTransfers : Obligations.RegisterTransfers := by
  intro dst src v w s
  refine ⟨encodedAs_of_encode (encode_mov dst src), encodedAs_of_encode (encode_mvi dst v),
    fun p => encodedAs_of_encode (encode_lxi p w), encodedAs_of_encode rfl,
    ⟨_, exec_mov dst src s, getReg_setReg_same dst _ s, changesOnlyRegs_setReg dst _ s⟩,
    ⟨_, exec_mvi dst v s, getReg_setReg_same dst v s, changesOnlyRegs_setReg dst v s⟩, ?_,
    exec_lxi .sp w s, exec_sphl s⟩
  simp only [List.forall_mem_cons]
  exact ⟨⟨_, exec_lxi (.rp .bc) w s, rfl, rfl, changesOnlyRegs_setReg_two .b .c (highByte w) (lowByte w) s⟩,
    ⟨_, exec_lxi (.rp .de) w s, rfl, rfl, changesOnlyRegs_setReg_two .d .e (highByte w) (lowByte w) s⟩,
    ⟨_, exec_lxi (.rp .hl) w s, rfl, rfl, changesOnlyRegs_setReg_two .h .l (highByte w) (lowByte w) s⟩,
    List.forall_mem_nil _⟩

/-- Settles O37: each is `loadReg_effect` at its address, which is taken from the state before. -/
theorem loadsFromMemory : Obligations.LoadsFromMemory := by
  intro dst adr s
  refine ⟨encodedAs_of_encode (encode_movFromM dst), encodedAs_of_encode rfl, encodedAs_of_encode rfl,
    encodedAs_of_encode rfl, ?_⟩
  simp only [List.forall_mem_cons]
  exact ⟨⟨_, exec_movFromM dst s, loadReg_effect dst _ s⟩, ⟨_, exec_ldaxB s, loadReg_effect .a _ s⟩,
    ⟨_, exec_ldaxD s, loadReg_effect .a _ s⟩, ⟨_, exec_lda adr s, loadReg_effect .a adr s⟩, List.forall_mem_nil _⟩

/-- Settles O38: each is `storeByte_effect` at its address. -/
theorem storesToMemory : Obligations.StoresToMemory := by
  intro src v adr s
  refine ⟨encodedAs_of_encode (encode_movToM src), encodedAs_of_encode rfl, encodedAs_of_encode rfl,
    encodedAs_of_encode rfl, encodedAs_of_encode rfl, ?_⟩
  simp only [List.forall_mem_cons]
  exact ⟨⟨_, exec_movToM src s, storeByte_effect _ _ s⟩, ⟨_, exec_mviM v s, storeByte_effect _ v s⟩,
    ⟨_, exec_staxB s, storeByte_effect _ _ s⟩, ⟨_, exec_staxD s, storeByte_effect _ _ s⟩,
    ⟨_, exec_sta adr s, storeByte_effect adr _ s⟩, List.forall_mem_nil _⟩

end Sys2Proof.Machine
end

section
/-! Transfers of two bytes (R141 to R146). A load is two reads in a row (`afterTwoReads`), the second unaware of the
register that the first went to (`memRead_setReg`); POP is the same two reads and SP (`popsBut_pop16`); SHLD and PUSH
are two stores. PSW comes back because `pop16` undoes `push16` and `unpackFlags` undoes `packFlags`. -/

namespace Sys2Proof.Machine

/-! ## Reads -/

/-- A read does not look at the registers. -/
theorem memRead_setReg (a : Word) (r : Reg) (v : Byte) (s : State) :
    memRead a (setReg r v s) = ((memRead a s).1, setReg r v (memRead a s).2) := by
  rw [memRead_eq, memRead_eq, setReg_params]
  cases memKind s.params a <;> cases r <;> rfl

/-- A further read changes nothing but what passes between the processor and its environment (R62). -/
theorem KeepsBut.memRead {rs : List Reg} {s r t : State} (h : KeepsBut rs s r t) (a : Word) :
    KeepsBut rs s (memRead a t).2 (memRead a t).2 := by
  obtain ⟨regs, hsp, hpc, control, bytes, -⟩ := h
  simpa [KeepsBut, SameRegsBut, SameControl, SameBytes, SameEvents] using ⟨regs, hsp, hpc, control, bytes⟩

theorem keepsBut_afterTwoReads (rs : List Reg) (a : Word) (s : State) :
    KeepsBut rs s (afterTwoReads a s) (afterTwoReads a s) :=
  (keepsBut_memRead rs a s).memRead (a + 1)

/-- After a pop: SP past the word, its two bytes read in order, and nothing else changed but the listed registers and
the flags (R83). -/
def PopsBut (rs : List Reg) (s t : State) : Prop :=
  t.sp = s.sp + 2 ∧ t.pc = s.pc ∧ SameRegsBut rs s t ∧ SameControl s t ∧ SameBytes s t ∧
    SameEvents (afterTwoReads s.sp s) t

/-- A pop's frame is `KeepsBut` seen from the state with SP past the word. -/
theorem popsBut_iff_keepsBut (rs : List Reg) (s t : State) :
    PopsBut rs s t ↔ KeepsBut rs { s with sp := s.sp + 2 } (afterTwoReads s.sp s) t :=
  have order {p q r rest : Prop} : p ∧ q ∧ r ∧ rest ↔ r ∧ p ∧ q ∧ rest := by tauto
  order

theorem popsBut_pop16 (rs : List Reg) (s : State) : PopsBut rs s (pop16 s).2 := by
  obtain ⟨regs, -, hpc, rest⟩ := keepsBut_afterTwoReads rs s.sp s
  exact ⟨rfl, hpc, regs, rest⟩

/-- A listed register may be written. -/
theorem PopsBut.setReg {rs : List Reg} {s t : State} {q : Reg} (h : PopsBut rs s t) (hq : q ∈ rs) (v : Byte) :
    PopsBut rs s (setReg q v t) :=
  (popsBut_iff_keepsBut _ _ _).mpr (((popsBut_iff_keepsBut _ _ _).mp h).setReg hq v)

/-! ## Effects of the operations -/

/-- The registers of LHLD are written after both reads as well as between them (R142). -/
theorem loadHlDirect_eq (adr : Word) (s : State) : loadHlDirect adr s =
    setReg .h (memRead (adr + 1) (memRead adr s).2).1 (setReg .l (memRead adr s).1 (afterTwoReads adr s)) := by
  simp only [loadHlDirect, memRead_setReg, afterTwoReads]

/-- The two bytes of SHLD (R141). -/
theorem storeHlDirect_effect (adr : Word) (s : State) :
    StoresBytes [(adr, s.l), (adr + 1, s.h)] s (storeHlDirect adr s) ∧ SameRegs s (storeHlDirect adr s) ∧
      (storeHlDirect adr s).f = s.f ∧ (storeHlDirect adr s).sp = s.sp ∧ (storeHlDirect adr s).pc = s.pc ∧
      SameControl s (storeHlDirect adr s) :=
  ⟨storesBytes_memWrite_two adr (adr + 1) s.l s.h s (succ_ne_self adr).symm, fun r => by simp [storeHlDirect],
    by simp [storeHlDirect], by simp [storeHlDirect], by simp [storeHlDirect], by simp [SameControl, storeHlDirect]⟩

/-- A word given by its two bytes, pushed: PUSH rp and PUSH PSW (R143, R144). -/
theorem pushBytes_effect (hi lo : Byte) (s : State) :
    (push16 (joinBytes hi lo) s).sp = s.sp - 2 ∧
      StoresBytes [(s.sp - 1, hi), (s.sp - 2, lo)] s (push16 (joinBytes hi lo) s) ∧
      SameRegs s (push16 (joinBytes hi lo) s) ∧ (push16 (joinBytes hi lo) s).f = s.f ∧
      (push16 (joinBytes hi lo) s).pc = s.pc ∧ SameControl s (push16 (joinBytes hi lo) s) := by
  refine ⟨push16_sp _ s, ?_, fun r => getReg_push16 r _ s, push16_f _ s, push16_pc _ s, by simp [SameControl]⟩
  simpa using storesBytes_push16 (joinBytes hi lo) s

/-- POP rp, for a pair that is written as the registers `hi` and `lo` (R145). -/
theorem popPair_effect {p : RegPair} {hi lo : Reg} (other : hi ≠ lo)
    (halves : ∀ w u, setRegPair p w u = setReg lo (lowByte w) (setReg hi (highByte w) u)) (s : State) :
    getReg hi (popPair p s) = (memRead (s.sp + 1) (memRead s.sp s).2).1 ∧
      getReg lo (popPair p s) = (memRead s.sp s).1 ∧ (popPair p s).f = s.f ∧
      PopsBut [hi, lo] s (popPair p s) := by
  have written : popPair p s = setReg lo (lowByte (pop16 s).1) (setReg hi (highByte (pop16 s).1) (pop16 s).2) :=
    halves (pop16 s).1 (pop16 s).2
  rw [written]
  refine ⟨?_, ?_, by simp, ((popsBut_pop16 _ s).setReg (by simp) _).setReg (by simp) _⟩
  · rw [getReg_setReg_ne lo hi _ _ other, getReg_setReg_same]
    exact highByte_joinBytes _ _
  · rw [getReg_setReg_same]
    exact lowByte_joinBytes _ _

/-- POP PSW: A from the high byte, the flags from the low one (R146). -/
theorem popPsw_effect (s : State) :
    (popPsw s).a = (memRead (s.sp + 1) (memRead s.sp s).2).1 ∧ (popPsw s).f = unpackFlags (memRead s.sp s).1 ∧
      PopsBut [.a] s (popPsw s) :=
  ⟨highByte_joinBytes _ _, congrArg unpackFlags (lowByte_joinBytes _ _),
    (popsBut_pop16 [.a] s).setReg (q := .a) (by simp) (highByte (pop16 s).1)⟩

/-! ## PSW saved and restored -/

/-- The bits that `unpackFlags` takes are the ones that `packFlags` places (R33). -/
theorem unpackFlags_packFlags (f : Flags) : unpackFlags (packFlags f) = f := by
  have bits := getLsbD_packFlags f
  simp only [unpackFlags, bits 7 (by decide), bits 6 (by decide), bits 4 (by decide), bits 2 (by decide),
    bits 0 (by decide)]
  rfl

theorem getReg_setAccFlags (r : Reg) (a : Byte) (f : Flags) (s : State) :
    getReg r (setAccFlags a f s) = if r = .a then a else getReg r s :=
  getReg_setReg .a r a s

/-- The word a pop answers depends on no register or flag but SP. -/
theorem pop16_fst_setAccFlags (a : Byte) (f : Flags) (s : State) : (pop16 (setAccFlags a f s)).1 = (pop16 s).1 :=
  have agree : AgreeOn [.sp] s (setAccFlags a f s) :=
    (agreeOn_iff _ _ _).mpr ⟨List.forall_mem_singleton.mpr rfl, rfl⟩
  dependsOn_pop16 (List.mem_singleton.mpr rfl) s _ agree

/-- POP PSW finds A and the flags as PUSH PSW left them on the stack. -/
theorem popPsw_pushPsw (s : State) (a : Byte) (f : Flags) (hhigh : IsRam s (s.sp - 1)) (hlow : IsRam s (s.sp - 2)) :
    popPsw (setAccFlags a f (pushPsw s)) = setAccFlags s.a s.f (pop16 (setAccFlags a f (pushPsw s))).2 := by
  have word : (pop16 (setAccFlags a f (pushPsw s))).1 = joinBytes s.a (packFlags s.f) := by
    rw [pop16_fst_setAccFlags, pushPsw, pop16_push16 _ s hhigh hlow]
  rw [popPsw, word, highByte_joinBytes, lowByte_joinBytes, unpackFlags_packFlags]
  rfl

/-! ## The instructions -/

/-- Settles O43: `popPsw_pushPsw`; SP is down by 2 and up by 2, and no other register is written. -/
theorem pswSavedAndRestored : Obligations.PswSavedAndRestored := by
  intro s a f hhigh hlow
  have popped := popPsw_pushPsw s a f hhigh hlow
  refine ⟨pushPsw s, _, exec_pushPSW s, (exec_popPSW (setAccFlags a f (pushPsw s))).trans (congrArg _ popped),
    rfl, rfl, BitVec.sub_add_cancel s.sp 2, fun r => ?_⟩
  rw [getReg_setAccFlags, getReg_pop16, getReg_setAccFlags, pushPsw, getReg_push16]
  split
  next isA => rw [isA]; rfl
  next => rfl

/-- Settles O39: `storeHlDirect_effect`, and `loadHlDirect_eq` for the reads. -/
theorem directPairTransfers : Obligations.DirectPairTransfers := by
  refine fun adr s => ⟨encodedAs_of_encode rfl, encodedAs_of_encode rfl,
    ⟨_, exec_shld adr s, storeHlDirect_effect adr s⟩, ⟨_, exec_lhld adr s, ?_⟩⟩
  rw [loadHlDirect_eq]
  exact ⟨rfl, rfl, ((keepsBut_afterTwoReads [.h, .l] adr s).setReg (by simp) _).setReg (by simp) _,
    by simp [afterTwoReads]⟩

/-- Settles O40: each is `pushBytes_effect` for its two bytes. -/
theorem pushInstructions : Obligations.PushInstructions := by
  refine fun s => ⟨encodedAs_of_encode rfl, encodedAs_of_encode rfl, encodedAs_of_encode rfl, encodedAs_of_encode rfl, ?_⟩
  simp only [List.forall_mem_cons]
  exact ⟨⟨_, exec_push .bc s, pushBytes_effect s.b s.c s⟩, ⟨_, exec_push .de s, pushBytes_effect s.d s.e s⟩,
    ⟨_, exec_push .hl s, pushBytes_effect s.h s.l s⟩, ⟨_, exec_pushPSW s, pushBytes_effect s.a (packFlags s.f) s⟩,
    List.forall_mem_nil _⟩

/-- Settles O41: each pair by `popPair_effect`, PSW by `popPsw_effect`. -/
theorem popInstructions : Obligations.PopInstructions := by
  rintro s lo hi rfl rfl
  refine ⟨encodedAs_of_encode rfl, encodedAs_of_encode rfl, encodedAs_of_encode rfl, encodedAs_of_encode rfl, ?_, ?_⟩
  · simp only [List.forall_mem_cons]
    exact ⟨⟨_, exec_pop .bc s, popPair_effect (by decide) (fun _ _ => rfl) s⟩,
      ⟨_, exec_pop .de s, popPair_effect (by decide) (fun _ _ => rfl) s⟩,
      ⟨_, exec_pop .hl s, popPair_effect (by decide) (fun _ _ => rfl) s⟩, List.forall_mem_nil _⟩
  · exact ⟨_, exec_popPSW s, popPsw_effect s⟩

end Sys2Proof.Machine
end

section
/-! Input and output through ports (R160, R161, R64, R65): both change what passes between the processor and its
environment and nothing else (`keepsBut_exchange`), and IN then writes A. -/

namespace Sys2Proof.Machine

/-! ## Frames -/

/-- Nothing of the processor or of memory lies in the history or in the bytes the environment has ready. -/
theorem keepsBut_exchange (rs : List Reg) (events : List IoEvent) (ready : List Byte) (s : State) :
    KeepsBut rs s { s with history := events, answers := ready } { s with history := events, answers := ready } :=
  ⟨fun r _ => by cases r <;> rfl, rfl, rfl, ⟨rfl, rfl, rfl, rfl, rfl, rfl⟩, fun _ => rfl, rfl, rfl, rfl⟩

theorem keepsBut_ioRead (rs : List Reg) (port : Byte) (s : State) :
    KeepsBut rs s (ioRead port s).2 (ioRead port s).2 := by
  rw [ioRead_eq]
  exact keepsBut_exchange rs _ _ s

theorem keepsBut_ioWrite (rs : List Reg) (port v : Byte) (s : State) :
    KeepsBut rs s (ioWrite port v s) (ioWrite port v s) :=
  keepsBut_exchange rs _ s.answers s

/-! ## Effects of the operations -/

/-- A is written after the read and holds its byte; the events are those of the read (R160). -/
theorem inputFrom_effect (n : Byte) (s : State) :
    (inputFrom n s).a = (ioRead n s).1 ∧ KeepsBut [.a] s (ioRead n s).2 (inputFrom n s) ∧ (inputFrom n s).f = s.f :=
  ⟨rfl, (keepsBut_ioRead [.a] n s).setReg (q := .a) (by simp) _, by simp [inputFrom, ioRead_eq]⟩

/-- No register is written, A included; the write is recorded with A's byte (R161). -/
theorem outputTo_effect (n : Byte) (s : State) :
    KeepsBut [] s (ioWrite n s.a s) (outputTo n s) ∧ (outputTo n s).f = s.f :=
  ⟨keepsBut_ioWrite [] n s.a s, rfl⟩

/-! ## The instructions -/

/-- Settles O11: `inputFrom_effect` with the byte and the events of `ioRead_eq`, and `outputTo_effect`. -/
theorem portInstructions : Obligations.PortInstructions := by
  refine fun n s => ⟨encodedAs_of_encode rfl, encodedAs_of_encode rfl, ?_, ?_⟩
  · obtain ⟨ha, ⟨regs, hsp, hpc, control, bytes, history, answers, draws⟩, flags⟩ := inputFrom_effect n s
    rw [ioRead_eq] at ha history answers draws
    exact ⟨_, _, exec_inN n s, rfl, ha, history, answers, draws, regs, flags, hsp, hpc, control, bytes⟩
  · obtain ⟨⟨regs, hsp, hpc, control, bytes, history, answers, draws⟩, flags⟩ := outputTo_effect n s
    exact ⟨_, exec_outN n s, history, answers, draws, fun r => regs r List.not_mem_nil, flags, hsp, hpc, control, bytes⟩

end Sys2Proof.Machine
end

section
/-! Exchanges (R170, R171). XCHG is its own inverse; XTHL is two reads (`afterTwoReads`) and then `storeHlLoadHl`, two
stores at different addresses and two registers. -/

namespace Sys2Proof.Machine

/-! ## Runs of one instruction -/

/-- An instruction that always completes, carried out `n` times, is its operation iterated. -/
theorem repeatExec_of_next {i : Instr} {f : State → State} (h : ∀ s, exec i s = .next (f s)) (n : Nat) (s : State) :
    repeatExec i n s = .next (f^[n] s) := by
  induction n generalizing s with
  | zero => rfl
  | succ n ih => rw [repeatExec, h, Function.iterate_succ_apply, ← ih]

/-! ## Effects of the operations -/

/-- Two swaps in a row restore the start (R170). -/
theorem exchangeHlDe_involutive : Function.Involutive exchangeHlDe := fun _ => rfl

theorem exchangeHlStack_eq (s : State) : exchangeHlStack s =
    storeHlLoadHl s.sp s.h s.l (memRead (s.sp + 1) (memRead s.sp s).2).1 (memRead s.sp s).1 (afterTwoReads s.sp s) :=
  rfl

/-- H is stored at `sp + 1`, then L at `sp`; the bytes read before are the new H and L, and nothing else changes. -/
theorem storeHlLoadHl_effect (sp : Word) (h l hi lo : Byte) (s : State) :
    SameRegsBut [.h, .l] s (storeHlLoadHl sp h l hi lo s) ∧ (storeHlLoadHl sp h l hi lo s).f = s.f ∧
      (storeHlLoadHl sp h l hi lo s).sp = s.sp ∧ (storeHlLoadHl sp h l hi lo s).pc = s.pc ∧
      SameControl s (storeHlLoadHl sp h l hi lo s) ∧
      StoresBytes [(sp + 1, h), (sp, l)] s (storeHlLoadHl sp h l hi lo s) := by
  refine ⟨fun r hr => ?_, by simp [storeHlLoadHl], by simp [storeHlLoadHl], by simp [storeHlLoadHl],
    by simp [SameControl, storeHlLoadHl], storesBytes_memWrite_two (sp + 1) sp h l s (succ_ne_self sp)⟩
  obtain ⟨notH, notL⟩ : r ≠ .h ∧ r ≠ .l := by simpa using hr
  have written : storeHlLoadHl sp h l hi lo s =
      setReg .l lo (setReg .h hi (memWrite sp l (memWrite (sp + 1) h s))) := rfl
  rw [written, getReg_setReg_ne _ _ _ _ notL, getReg_setReg_ne _ _ _ _ notH, getReg_memWrite, getReg_memWrite]

/-- The frame of the stores is that of the whole operation: the reads before them keep registers, flags and control. -/
theorem exchangeHlStack_effect (s : State) :
    SameRegsBut [.h, .l] s (exchangeHlStack s) ∧ (exchangeHlStack s).f = s.f ∧ (exchangeHlStack s).sp = s.sp ∧
      (exchangeHlStack s).pc = s.pc ∧ SameControl s (exchangeHlStack s) ∧
      StoresBytes [(s.sp + 1, s.h), (s.sp, s.l)] (afterTwoReads s.sp s) (exchangeHlStack s) := by
  rw [exchangeHlStack_eq]
  simpa [SameRegsBut, SameControl, afterTwoReads] using storeHlLoadHl_effect s.sp s.h s.l
    (memRead (s.sp + 1) (memRead s.sp s).2).1 (memRead s.sp s).1 (afterTwoReads s.sp s)

/-! ## The instructions -/

/-- Settles O44: `exchangeHlDe_involutive` for two in a row, and `exchangeHlStack_effect`. -/
theorem exchangeInstructions : Obligations.ExchangeInstructions := by
  rintro s lo hi rfl rfl
  refine ⟨encodedAs_of_encode rfl, encodedAs_of_encode rfl, exec_xchg s, ?_,
    ⟨_, exec_xthl s, rfl, rfl, exchangeHlStack_effect s⟩⟩
  rw [repeatExec_of_next exec_xchg, exchangeHlDe_involutive.iterate_even even_two, id]

end Sys2Proof.Machine
end

section
/-! Operations on one operand (R180 to R187). Z, S and P come from a result byte (`flagsOf_zsp`); INR and DCR are one
operation with two ways to count (`countReg_effect`, `countM_effect`). DAA's two conditions after the addition of
packed-BCD digits say that the low digits, and then the whole values, reach ten and a hundred
(`adjustsLow_iff_of_sum`, `adjustsHigh_iff_of_sum`). -/

namespace Sys2Proof.Machine

/-! ## Codes -/

theorem encode_inr (o : Operand8) : encode (.inr o) = [0b00#2 ++ operandCode o ++ 0b100#3] := by
  rcases o with (_ | _ | _ | _ | _ | _ | _) | _ <;> rfl

theorem encode_dcr (o : Operand8) : encode (.dcr o) = [0b00#2 ++ operandCode o ++ 0b101#3] := by
  rcases o with (_ | _ | _ | _ | _ | _ | _) | _ <;> rfl

theorem encode_inx (p : Pair) : encode (.inx p) = [0b00#2 ++ pairCode p ++ 0b0011#4] := by
  rcases p with (_ | _ | _) | _ <;> rfl

theorem encode_dcx (p : Pair) : encode (.dcx p) = [0b00#2 ++ pairCode p ++ 0b1011#4] := by
  rcases p with (_ | _ | _) | _ <;> rfl

/-! ## Flags of a result byte -/

/-- One more bit turns an even count odd and an odd one even. -/
theorem decide_even_add_bit (n : Nat) (b : Bool) :
    decide ((n + b.toNat) % 2 = 0) = (decide (n % 2 = 0) ^^ b) := by
  cases b
  · simp
  · rcases Nat.mod_two_eq_zero_or_one n with h | h <;> simp [Nat.add_mod, h]

theorem oneBits_eq_sum (v : Byte) : oneBits v =
    (v.getLsbD 7).toNat + (v.getLsbD 6).toNat + (v.getLsbD 5).toNat + (v.getLsbD 4).toNat + (v.getLsbD 3).toNat +
      (v.getLsbD 2).toNat + (v.getLsbD 1).toNat + (v.getLsbD 0).toNat := by
  have bit (b : Bool) : (if b = true then 1 else 0) = b.toNat := by cases b <;> rfl
  have positions : List.range 8 = [0, 1, 2, 3, 4, 5, 6, 7] := rfl
  simp only [oneBits, positions, List.countP_cons, List.countP_nil, bit]
  omega

/-- The exclusive or of the bits is the parity of their number (R35). -/
theorem evenParity_eq (v : Byte) : evenParity v = decide (oneBits v % 2 = 0) := by
  rw [oneBits_eq_sum]
  simp only [decide_even_add_bit, evenParity]
  cases v.getLsbD 7 <;> simp

/-- `zsp` gives Z, S and P the values that R31, R32 and R35 describe. -/
theorem flagsOf_zsp (v : Byte) (f : Flags) : FlagsOf v (zsp v f) := by
  refine ⟨?_, BitVec.msb_eq_decide v, evenParity_eq v⟩
  rw [Bool.eq_iff_iff, decide_eq_true_iff]
  exact beq_iff_eq.trans (BitVec.toNat_inj (y := 0)).symm

/-! ## Frames -/

theorem getReg_setFlags (r : Reg) (f : Flags) (s : State) : getReg r (setFlags f s) = getReg r s := by
  cases r <;> rfl

/-- The flags are no part of the frame. -/
theorem KeepsBut.setFlags {rs : List Reg} {s r t : State} (h : KeepsBut rs s r t) (f : Flags) :
    KeepsBut rs s r (setFlags f t) := by
  obtain ⟨regs, rest⟩ := h
  exact ⟨fun q hq => (getReg_setFlags q f t).trans (regs q hq), rest⟩

theorem keepsBut_setAccFlags (a : Byte) (f : Flags) (s : State) : KeepsBut [.a] s s (setAccFlags a f s) :=
  ((KeepsBut.refl [.a] s).setFlags f).setReg (q := .a) (by simp) a

/-! ## INR and DCR -/

/-- INR and DCR on a register: the operand counted, its flags, CY kept (R184, R185). -/
theorem countReg_effect (next : Byte → Byte) (ac : Byte → Bool) (r : Reg) (s : State) :
    getReg r (countOperand next ac (.reg r) s) = next (getReg r s) ∧
      FlagsOf (next (getReg r s)) (countOperand next ac (.reg r) s).f ∧
      (countOperand next ac (.reg r) s).f.ac = ac (getReg r s) ∧ (countOperand next ac (.reg r) s).f.cy = s.f.cy ∧
      KeepsBut [r] s s (countOperand next ac (.reg r) s) := by
  have written : countOperand next ac (.reg r) s =
      setReg r (next (getReg r s)) (setCountFlags (next (getReg r s)) (ac (getReg r s)) s) := rfl
  rw [written, getReg_setReg_same, setReg_f]
  exact ⟨rfl, flagsOf_zsp _ _, rfl, rfl, ((KeepsBut.refl [r] s).setFlags _).setReg (by simp) _⟩

/-- INR and DCR on M: the byte is read at HL and stored there again (R184, R185). -/
theorem countM_effect (next : Byte → Byte) (ac : Byte → Bool) (s : State) (m : Word) (v : Byte × State)
    (hm : m = joinBytes s.h s.l) (hv : v = memRead m s) :
    StoresBytes [(m, next v.1)] v.2 (countOperand next ac .m s) ∧
      FlagsOf (next v.1) (countOperand next ac .m s).f ∧ (countOperand next ac .m s).f.ac = ac v.1 ∧
      (countOperand next ac .m s).f.cy = s.f.cy ∧ SameRegs s (countOperand next ac .m s) ∧
      (countOperand next ac .m s).sp = s.sp ∧ (countOperand next ac .m s).pc = s.pc ∧
      SameControl s (countOperand next ac .m s) := by
  have written : countOperand next ac .m s = memWrite m (next v.1) (setCountFlags (next v.1) (ac v.1) v.2) := by
    subst hv hm
    simp [countOperand, setCountFlags, regHL]
  rw [written, memWrite_f, memWrite_sp, memWrite_pc]
  subst hv
  refine ⟨storesBytes_memWrite m _ (setCountFlags _ _ _), flagsOf_zsp _ _, rfl, by simp [setCountFlags, zsp],
    fun r => ?_, memRead_sp m s, memRead_pc m s, by simp [SameControl, setCountFlags]⟩
  rw [getReg_memWrite]
  exact (getReg_setFlags r _ _).trans (getReg_memRead r m s)

/-- Settles O48: `countReg_effect` and `countM_effect` with the two ways to count. -/
theorem incrementDecrement : Obligations.IncrementDecrement := by
  refine fun r s => ⟨fun o => ⟨encodedAs_of_encode (encode_inr o), encodedAs_of_encode (encode_dcr o)⟩,
    ⟨_, exec_inr (.reg r) s, ?_⟩, ⟨_, exec_dcr (.reg r) s, ?_⟩,
    fun m v hm hv => ⟨⟨_, exec_inr .m s, ?_⟩, ⟨_, exec_dcr .m s, ?_⟩⟩⟩
  · rw [incrementOperand_eq]
    exact countReg_effect _ _ r s
  · rw [decrementOperand_eq]
    exact countReg_effect _ _ r s
  · rw [incrementOperand_eq]
    exact countM_effect (· + 1) (fun v => decide (lowNibble v = 15)) s m v hm hv
  · rw [decrementOperand_eq]
    exact countM_effect (· - 1) (fun v => decide (lowNibble v ≠ 0)) s m v hm hv

/-! ## INX and DCX -/

/-- A word written to a pair of the registers `hi` and `lo`: what INX and DCX leave (R186, R187). -/
theorem setRegPair_effect {p : RegPair} {hi lo : Reg}
    (read : ∀ u, getRegPair p u = joinBytes (getReg hi u) (getReg lo u))
    (halves : ∀ w u, setRegPair p w u = setReg lo (lowByte w) (setReg hi (highByte w) u)) (w : Word) (s : State) :
    ChangesOnlyRegs [hi, lo] s (setRegPair p w s) ∧
      joinBytes (getReg hi (setRegPair p w s)) (getReg lo (setRegPair p w s)) = w := by
  refine ⟨?_, ?_⟩
  · rw [halves]
    exact changesOnlyRegs_setReg_two hi lo _ _ s
  · rw [← read, getRegPair_setRegPair]

/-- Settles O49: `setRegPair_effect` for the word counted up and the word counted down. -/
theorem pairIncrementDecrement : Obligations.PairIncrementDecrement := by
  refine fun s => ⟨fun p => ⟨encodedAs_of_encode (encode_inx p), encodedAs_of_encode (encode_dcx p)⟩, ?_,
    exec_inx .sp s, exec_dcx .sp s⟩
  have bc := setRegPair_effect (p := .bc) (hi := .b) (lo := .c) (fun _ => rfl) (fun _ _ => rfl)
  have de := setRegPair_effect (p := .de) (hi := .d) (lo := .e) (fun _ => rfl) (fun _ _ => rfl)
  have hl := setRegPair_effect (p := .hl) (hi := .h) (lo := .l) (fun _ => rfl) (fun _ _ => rfl)
  simp only [List.forall_mem_cons]
  exact ⟨⟨⟨_, exec_inx (.rp .bc) s, bc _ s⟩, ⟨_, exec_dcx (.rp .bc) s, bc _ s⟩⟩,
    ⟨⟨_, exec_inx (.rp .de) s, de _ s⟩, ⟨_, exec_dcx (.rp .de) s, de _ s⟩⟩,
    ⟨⟨_, exec_inx (.rp .hl) s, hl _ s⟩, ⟨_, exec_dcx (.rp .hl) s, hl _ s⟩⟩, List.forall_mem_nil _⟩

/-! ## CMC, STC and CMA -/

/-- Settles O45: CMA is one register written, CMC and STC are their definitions. -/
theorem carryAndComplement : Obligations.CarryAndComplement := by
  refine fun s => ⟨encodedAs_of_encode rfl, encodedAs_of_encode rfl, encodedAs_of_encode rfl, exec_cmc s, exec_stc s,
    ⟨_, exec_cma s, fun k hk => ?_, changesOnlyRegs_setReg .a (~~~s.a) s⟩⟩
  have inverted : (~~~s.a).getLsbD k = !s.a.getLsbD k := by rw [BitVec.getLsbD_not, decide_eq_true hk, Bool.true_and]
  exact inverted

/-! ## The addition -/

theorem toNat_add8 (a v : Byte) (cin : Bool) :
    (add8 a v cin).1.toNat = (a.toNat + v.toNat + cin.toNat) % 256 :=
  BitVec.toNat_ofNat _ 8

theorem flagsOf_add8 (a v : Byte) (cin : Bool) : FlagsOf (add8 a v cin).1 (add8 a v cin).2 := flagsOf_zsp _ _

theorem add8_ac (a v : Byte) (cin : Bool) :
    (add8 a v cin).2.ac = decide (15 < a.toNat % 16 + v.toNat % 16 + cin.toNat) := rfl

theorem add8_cy (a v : Byte) (cin : Bool) :
    (add8 a v cin).2.cy = decide (255 < a.toNat + v.toNat + cin.toNat) := rfl

/-! ## DAA -/

/-- Step 1 of R183 happens. -/
theorem adjustsLow_iff (a : Byte) (f : Flags) : adjustsLow a f = true ↔ f.ac = true ∨ 9 < a.toNat % 16 := by
  simp [adjustsLow, lowNibble]

/-- Step 2 of R183 happens: the model's test on A before step 1 is the words' test on the high digit after it. -/
theorem adjustsHigh_iff (a : Byte) (f : Flags) : adjustsHigh a f = true ↔
    f.cy = true ∨ 9 < (a.toNat + if adjustsLow a f then 6 else 0) / 16 := by
  have tests : 9 < a.toNat / 16 ∨ (9 ≤ a.toNat / 16 ∧ 9 < a.toNat % 16) ↔
      9 < (a.toNat + if adjustsLow a f then 6 else 0) / 16 := by
    split
    next => omega
    next noStep =>
      have digit : ¬ 9 < a.toNat % 16 := fun h => noStep ((adjustsLow_iff a f).mpr (.inr h))
      omega
  simp [adjustsHigh, highNibble, lowNibble, ← tests, or_assoc]

/-- The byte that DAA adds to A. -/
def decimalCorrection (low high : Bool) : Byte := (if low then 0x06 else 0x00) ||| (if high then 0x60 else 0x00)

theorem toNat_decimalCorrection (low high : Bool) :
    (decimalCorrection low high).toNat = (if low then 6 else 0) + (if high then 0x60 else 0) := by
  cases low <;> cases high <;> rfl

theorem decimalCorrection_lowDigit (low high : Bool) :
    (decimalCorrection low high).toNat % 16 = if low then 6 else 0 := by
  cases low <;> cases high <;> rfl

theorem adjustDecimal_eq (a : Byte) (f : Flags) :
    adjustDecimal a f = ((add8 a (decimalCorrection (adjustsLow a f) (adjustsHigh a f)) false).1,
      { (add8 a (decimalCorrection (adjustsLow a f) (adjustsHigh a f)) false).2 with cy := adjustsHigh a f }) := rfl

/-- A after DAA: the two steps one after the other. -/
theorem toNat_adjustDecimal (a : Byte) (f : Flags) : (adjustDecimal a f).1.toNat =
    (a.toNat + (if adjustsLow a f then 6 else 0) + (if adjustsHigh a f then 0x60 else 0)) % 256 := by
  rw [adjustDecimal_eq, toNat_add8, toNat_decimalCorrection, ← Nat.add_assoc]
  rfl

/-- AC after DAA is the carry of step 1 out of bit 3: step 2 does not reach the low digit. -/
theorem adjustDecimal_ac_iff (a : Byte) (f : Flags) :
    (adjustDecimal a f).2.ac = true ↔ adjustsLow a f = true ∧ 10 ≤ a.toNat % 16 := by
  rw [adjustDecimal_eq]
  simp only [add8_ac, decimalCorrection_lowDigit, decide_eq_true_iff, Bool.toNat_false]
  split
  next step1 =>
    rw [and_iff_right step1]
    omega
  next noStep1 =>
    have noCarry : a.toNat % 16 < 16 := Nat.mod_lt _ (by decide)
    exact iff_of_false (by omega) fun h => noStep1 h.left

theorem adjustDecimal_cy (a : Byte) (f : Flags) : (adjustDecimal a f).2.cy = adjustsHigh a f := rfl

theorem flagsOf_adjustDecimal (a : Byte) (f : Flags) : FlagsOf (adjustDecimal a f).1 (adjustDecimal a f).2 :=
  flagsOf_add8 a (decimalCorrection (adjustsLow a f) (adjustsHigh a f)) false

/-- Settles O46: the two conditions are `adjustsLow_iff` and `adjustsHigh_iff`. -/
theorem daaAdjusts : Obligations.DaaAdjusts := by
  intro s low high _ _ hlow hhigh
  have step1 : low ↔ adjustsLow s.a s.f = true := hlow.trans (adjustsLow_iff s.a s.f).symm
  have six : (if low then 6 else 0) = if adjustsLow s.a s.f then 6 else 0 := if_congr step1 rfl rfl
  have step2 : high ↔ adjustsHigh s.a s.f = true := by rw [hhigh, six, adjustsHigh_iff]
  have sixty : (if high then 0x60 else 0) = if adjustsHigh s.a s.f then 0x60 else 0 := if_congr step2 rfl rfl
  refine ⟨encodedAs_of_encode rfl, _, exec_daa s, ?_, ?_, step2.symm, flagsOf_adjustDecimal s.a s.f,
    keepsBut_setAccFlags _ _ s⟩
  · rw [six, sixty]
    exact toNat_adjustDecimal s.a s.f
  · rw [step1]
    exact adjustDecimal_ac_iff s.a s.f

/-! ## DAA after an addition -/

section
variable {x y : Byte}

/-- After the sum of two packed-BCD bytes, step 1 happens when the low digits make ten or more: AC tells 16 and
more. -/
theorem adjustsLow_iff_of_sum (hx : ValidBcd x) (hy : ValidBcd y) (cin : Bool) :
    adjustsLow (add8 x y cin).1 (add8 x y cin).2 = true ↔ 10 ≤ x.toNat % 16 + y.toNat % 16 + cin.toNat := by
  obtain ⟨-, hx0⟩ := hx
  obtain ⟨-, hy0⟩ := hy
  have hcin := cin.toNat_le
  rw [adjustsLow_iff, add8_ac, toNat_add8, decide_eq_true_iff]
  omega

/-- After the sum of two packed-BCD bytes, step 2 happens when the values make a hundred or more. -/
theorem adjustsHigh_iff_of_sum (hx : ValidBcd x) (hy : ValidBcd y) (cin : Bool) :
    adjustsHigh (add8 x y cin).1 (add8 x y cin).2 = true ↔ 100 ≤ bcdValue x + bcdValue y + cin.toNat := by
  have low := adjustsLow_iff_of_sum hx hy cin
  obtain ⟨hx1, hx0⟩ := hx
  obtain ⟨hy1, hy0⟩ := hy
  have hcin := cin.toNat_le
  rw [adjustsHigh_iff, add8_cy, toNat_add8, decide_eq_true_iff]
  unfold bcdValue
  split
  next step1 =>
    have carry := low.mp step1
    omega
  next noStep1 =>
    have noCarry := mt low.mpr noStep1
    omega

/-- Step 1 carries at ten instead of sixteen: it leaves the tens of the sum of the values above its ones. -/
theorem binarySum_add_six (hx : ValidBcd x) (hy : ValidBcd y) (cin : Bool) :
    x.toNat + y.toNat + cin.toNat + (if 10 ≤ x.toNat % 16 + y.toNat % 16 + cin.toNat then 6 else 0) =
      16 * ((bcdValue x + bcdValue y + cin.toNat) / 10) + (bcdValue x + bcdValue y + cin.toNat) % 10 := by
  obtain ⟨-, hx0⟩ := hx
  obtain ⟨-, hy0⟩ := hy
  have hcin := cin.toNat_le
  unfold bcdValue
  split
  next carry => omega
  next noCarry => omega

theorem bcd_sum_lt (hx : ValidBcd x) (hy : ValidBcd y) (cin : Bool) : bcdValue x + bcdValue y + cin.toNat < 200 := by
  obtain ⟨hx1, hx0⟩ := hx
  obtain ⟨hy1, hy0⟩ := hy
  have hcin := cin.toNat_le
  unfold bcdValue
  omega

end

/-- Step 2 takes a hundred off the tens. -/
theorem tens_add_sixty {n : Nat} (h : n < 200) :
    (16 * (n / 10) + n % 10 + if 100 ≤ n then 0x60 else 0) % 256 = 16 * (n / 10 % 10) + n % 10 := by
  split
  next hundred =>
    have tens : n / 10 % 10 = n / 10 - 10 := by omega
    omega
  next noHundred =>
    have tens : n / 10 % 10 = n / 10 := by omega
    omega

/-- After the sum of two packed-BCD bytes, DAA leaves the two last digits of the sum of the values. -/
theorem toNat_adjustDecimal_of_sum {x y : Byte} (hx : ValidBcd x) (hy : ValidBcd y) (cin : Bool) :
    (adjustDecimal (add8 x y cin).1 (add8 x y cin).2).1.toNat =
      16 * ((bcdValue x + bcdValue y + cin.toNat) / 10 % 10) + (bcdValue x + bcdValue y + cin.toNat) % 10 := by
  rw [toNat_adjustDecimal, toNat_add8, if_congr (adjustsLow_iff_of_sum hx hy cin) rfl rfl,
    if_congr (adjustsHigh_iff_of_sum hx hy cin) rfl rfl, Nat.add_assoc, Nat.mod_add_mod, ← Nat.add_assoc,
    binarySum_add_six hx hy cin, tens_add_sixty (bcd_sum_lt hx hy cin)]

theorem validBcd_of_digits {v : Byte} {n : Nat} (h : v.toNat = 16 * (n / 10 % 10) + n % 10) : ValidBcd v := by
  unfold ValidBcd
  omega

theorem bcdValue_of_digits {v : Byte} {n : Nat} (h : v.toNat = 16 * (n / 10 % 10) + n % 10) :
    bcdValue v = n % 100 := by
  unfold bcdValue
  omega

/-- ADD and ADC are `add8` with no carry in and with CY (R200, R202). -/
theorem aluResult_of_addition {policy : AnaAcPolicy} {op : AluOp} {cin : Bool} {f : Flags}
    (h : (op = .add ∧ cin = false) ∨ (op = .adc ∧ cin = f.cy)) (a v : Byte) :
    aluResult policy op a v f = add8 a v cin := by
  rcases h with ⟨rfl, rfl⟩ | ⟨rfl, rfl⟩ <;> rfl

/-- A and the flags are those of `aluResult`; the read of the operand leaves what it needs of the state before. -/
theorem aluWithOperand_a_f (op : AluOp) (o : Operand8) (s : State) :
    ((aluWithOperand op o s).a, (aluWithOperand op o s).f) =
      aluResult s.params.anaAc op s.a (get8 o s).1 s.f := by
  simp only [aluWithOperand, aluWithByte, get8_params, get8_a, get8_f]

/-- Settles O47: the value by `toNat_adjustDecimal_of_sum`, CY by `adjustsHigh_iff_of_sum`. -/
theorem bcdAdditionCorrect : Obligations.BcdAdditionCorrect := by
  intro s op o cin hop hx hy
  have sum := (aluWithOperand_a_f op o s).trans (aluResult_of_addition hop s.a (get8 o s).1)
  have ha : (aluWithOperand op o s).a = (add8 s.a (get8 o s).1 cin).1 := congrArg Prod.fst sum
  have hf : (aluWithOperand op o s).f = (add8 s.a (get8 o s).1 cin).2 := congrArg Prod.snd sum
  have digits := toNat_adjustDecimal_of_sum hx hy cin
  have hundred := adjustsHigh_iff_of_sum hx hy cin
  rw [← ha, ← hf] at digits hundred
  exact ⟨_, _, exec_alu op o s, exec_daa _, validBcd_of_digits digits, bcdValue_of_digits digits,
    Bool.eq_iff_iff.mpr (hundred.trans decide_eq_true_iff.symm)⟩

end Sys2Proof.Machine
end

section
/-! Operations on A and a second operand (R198 to R216). The register form and the immediate form of an operation put
one result into the state after the read of the operand (`alu_effect`). A subtraction is the sum with the complement,
256 more than the difference (`complement_sum`); a comparison is a subtraction that puts A back. -/

namespace Sys2Proof.Machine

/-! ## Codes -/

theorem encode_alu (op : AluOp) (o : Operand8) : encode (.alu op o) = [0b10#2 ++ aluCode op ++ operandCode o] := by
  cases op <;> rcases o with (_ | _ | _ | _ | _ | _ | _) | _ <;> rfl

theorem encode_dad (p : Pair) : encode (.dad p) = [0b00#2 ++ pairCode p ++ 0b1001#4] := by
  rcases p with (_ | _ | _) | _ <;> rfl

/-! ## Frames -/

/-- The read of an operand changes nothing but what passes between the processor and its environment (R9, R62). -/
theorem keepsBut_get8 (rs : List Reg) (o : Operand8) (s : State) : KeepsBut rs s (get8 o s).2 (get8 o s).2 := by
  cases o with
  | reg r => exact KeepsBut.refl rs s
  | m => exact keepsBut_memRead rs (regHL s) s

theorem KeepsBut.mono {rs rs' : List Reg} {s r t : State} (h : KeepsBut rs s r t) (sub : rs ⊆ rs') :
    KeepsBut rs' s r t := by
  obtain ⟨regs, rest⟩ := h
  exact ⟨fun q hq => regs q fun listed => hq (sub listed), rest⟩

/-- A and the flags may be written after the read. -/
theorem KeepsBut.setAccFlags {s r t : State} (h : KeepsBut [] s r t) (a : Byte) (f : Flags) :
    KeepsBut [.a] s r (setAccFlags a f t) :=
  ((h.mono (List.nil_subset [.a])).setReg (q := .a) (by simp) a).setFlags f

/-- A put back as it was is no change. -/
theorem KeepsBut.restoreAccSetFlags {s r t : State} (h : KeepsBut [] s r t) (f : Flags) :
    KeepsBut [] s r (Machine.setAccFlags s.a f t) := by
  have ha : t.a = s.a := h.1 .a (by simp)
  rw [← ha]
  exact h.setFlags f

/-! ## The two forms of an operation -/

/-- The result of an operation of group 6 on A and the flags of `s` and on `v`, put into `r`, the state after the read
of the operand (R198). -/
def putAluResult (op : AluOp) (s : State) (v : Byte) (r : State) : State :=
  setAccFlags (aluResult s.params.anaAc op s.a v s.f).1 (aluResult s.params.anaAc op s.a v s.f).2 r

theorem aluWithByte_eq (op : AluOp) (v : Byte) (s : State) : aluWithByte op v s = putAluResult op s v s := rfl

theorem aluWithOperand_eq (op : AluOp) (o : Operand8) (s : State) :
    aluWithOperand op o s = putAluResult op s (get8 o s).1 (get8 o s).2 := by
  have onRead : aluWithOperand op o s = putAluResult op (get8 o s).2 (get8 o s).1 (get8 o s).2 := rfl
  rw [onRead]
  simp only [putAluResult, get8_params, get8_a, get8_f]

/-- What holds of the result put into any state that a read may leave holds of both forms of the instruction. -/
theorem alu_effect {op : AluOp} {s : State} {P : Byte → State → State → Prop}
    (effect : ∀ v r, KeepsBut [] s r r → P v r (putAluResult op s v r)) (o : Operand8) (v : Byte) :
    (∃ t, exec (.alu op o) s = .next t ∧ P (get8 o s).1 (get8 o s).2 t) ∧
      ∃ t, exec (.aluImm op v) s = .next t ∧ P v s t := by
  refine ⟨⟨_, exec_alu op o s, ?_⟩, ⟨_, exec_aluImm op v s, ?_⟩⟩
  · rw [aluWithOperand_eq]
    exact effect _ _ (keepsBut_get8 [] o s)
  · rw [aluWithByte_eq]
    exact effect v s (KeepsBut.refl [] s)

/-! ## Additions -/

theorem addsToA_add8 {s r : State} (read : KeepsBut [] s r r) (v : Byte) (cin : Bool) :
    AddsToA v cin s r (setAccFlags (add8 s.a v cin).1 (add8 s.a v cin).2 r) :=
  ⟨toNat_add8 s.a v cin, add8_cy s.a v cin, add8_ac s.a v cin, flagsOf_add8 s.a v cin, read.setAccFlags _ _⟩

/-- Settles O50: each is `add8` on A and the operand. -/
theorem additionInstructions : Obligations.AdditionInstructions := by
  intro s o v
  obtain ⟨add, adi⟩ := alu_effect (op := .add) (P := fun x => AddsToA x false s)
    (fun x _ read => addsToA_add8 read x false) o v
  obtain ⟨adc, aci⟩ := alu_effect (op := .adc) (P := fun x => AddsToA x s.f.cy s)
    (fun x _ read => addsToA_add8 read x s.f.cy) o v
  exact ⟨encodedAs_of_encode (encode_alu .add o), encodedAs_of_encode rfl, encodedAs_of_encode (encode_alu .adc o),
    encodedAs_of_encode rfl, add, adi, adc, aci⟩

/-! ## Subtractions -/

/-- The sum with the complement is 256 more than the difference (R52). -/
theorem complement_sum (a v : Byte) (bin : Bool) :
    a.toNat + (~~~v).toNat + (1 - bin.toNat) = 256 + a.toNat - v.toNat - bin.toNat := by
  have hv := v.isLt
  have hbin := bin.toNat_le
  rw [BitVec.toNat_not]
  omega

theorem sub8_fst (a v : Byte) (bin : Bool) :
    (sub8 a v bin).1 = BitVec.ofNat 8 (256 + a.toNat - v.toNat - bin.toNat) :=
  congrArg (BitVec.ofNat 8) (complement_sum a v bin)

theorem toNat_sub8 (a v : Byte) (bin : Bool) :
    (sub8 a v bin).1.toNat = (256 + a.toNat - v.toNat - bin.toNat) % 256 := by
  rw [sub8_fst, BitVec.toNat_ofNat]

/-- CY is the borrow: the sum with the complement does not carry out of bit 7 (R36). -/
theorem sub8_cy (a v : Byte) (bin : Bool) : (sub8 a v bin).2.cy = decide (a.toNat < v.toNat + bin.toNat) := by
  have carry : (sub8 a v bin).2.cy = decide (a.toNat + (~~~v).toNat + (1 - bin.toNat) ≤ 255) := rfl
  have hv := v.isLt
  rw [carry, complement_sum, decide_eq_decide]
  omega

/-- AC is the carry of the sum with the complement out of bit 3: no borrow (R37). -/
theorem sub8_ac (a v : Byte) (bin : Bool) :
    (sub8 a v bin).2.ac = decide (v.toNat % 16 + bin.toNat ≤ a.toNat % 16) := by
  have carry : (sub8 a v bin).2.ac = decide (a.toNat % 16 + (~~~v).toNat % 16 + (1 - bin.toNat) > 15) := rfl
  have hv := v.isLt
  have hbin := bin.toNat_le
  rw [carry, BitVec.toNat_not, decide_eq_decide]
  omega

theorem subtractionFlags_sub8 (a v : Byte) (bin : Bool) : SubtractionFlags a v bin (sub8 a v bin).2 := by
  refine ⟨sub8_cy a v bin, sub8_ac a v bin, ?_⟩
  rw [← sub8_fst]
  exact flagsOf_zsp _ _

theorem subtractsFromA_sub8 {s r : State} (read : KeepsBut [] s r r) (v : Byte) (bin : Bool) :
    SubtractsFromA v bin s r (setAccFlags (sub8 s.a v bin).1 (sub8 s.a v bin).2 r) :=
  ⟨toNat_sub8 s.a v bin, subtractionFlags_sub8 s.a v bin, read.setAccFlags _ _⟩

/-- Settles O51: each is `sub8` on A and the operand. -/
theorem subtractionInstructions : Obligations.SubtractionInstructions := by
  intro s o v
  obtain ⟨sub, sui⟩ := alu_effect (op := .sub) (P := fun x => SubtractsFromA x false s)
    (fun x _ read => subtractsFromA_sub8 read x false) o v
  obtain ⟨sbb, sbi⟩ := alu_effect (op := .sbb) (P := fun x => SubtractsFromA x s.f.cy s)
    (fun x _ read => subtractsFromA_sub8 read x s.f.cy) o v
  exact ⟨encodedAs_of_encode (encode_alu .sub o), encodedAs_of_encode rfl, encodedAs_of_encode (encode_alu .sbb o),
    encodedAs_of_encode rfl, sub, sui, sbb, sbi⟩

/-! ## Logic operations -/

theorem logicLeaves_logic8 {s r : State} (read : KeepsBut [] s r r) (result : Byte) (ac : Bool) :
    LogicLeaves result ac s r (setAccFlags (logic8 result ac).1 (logic8 result ac).2 r) :=
  ⟨rfl, rfl, rfl, flagsOf_zsp _ _, read.setAccFlags _ _⟩

/-- Settles O52: each is `logic8` on its result; the policy only chooses AC of ANA and ANI (`anaAuxCarry`). -/
theorem logicInstructions : Obligations.LogicInstructions := by
  intro s o v
  obtain ⟨ana, ani⟩ := alu_effect (op := .ana)
    (P := fun x => LogicLeaves (s.a &&& x) (anaAuxCarry s.params.anaAc s.a x) s)
    (fun x _ read => logicLeaves_logic8 read (s.a &&& x) (anaAuxCarry s.params.anaAc s.a x)) o v
  obtain ⟨ora, ori⟩ := alu_effect (op := .ora) (P := fun x => LogicLeaves (s.a ||| x) false s)
    (fun x _ read => logicLeaves_logic8 read (s.a ||| x) false) o v
  obtain ⟨xra, xri⟩ := alu_effect (op := .xra) (P := fun x => LogicLeaves (s.a ^^^ x) false s)
    (fun x _ read => logicLeaves_logic8 read (s.a ^^^ x) false) o v
  refine ⟨encodedAs_of_encode (encode_alu .ana o), encodedAs_of_encode rfl, encodedAs_of_encode (encode_alu .ora o),
    encodedAs_of_encode rfl, encodedAs_of_encode (encode_alu .xra o), encodedAs_of_encode rfl,
    fun zero => ?_, fun orBit3 => ?_, ora, ori, xra, xri⟩
  · rw [zero] at ana ani
    exact ⟨ana, ani⟩
  · rw [orBit3] at ana ani
    exact ⟨ana, ani⟩

/-! ## Comparisons -/

theorem SubtractionFlags.z_iff {a v : Byte} {f : Flags} (h : SubtractionFlags a v false f) :
    f.z = true ↔ a = v := by
  obtain ⟨-, -, hz, -, -⟩ := h
  have ha := a.isLt
  have hv := v.isLt
  rw [hz, decide_eq_true_iff, BitVec.toNat_ofNat, Bool.toNat_false, ← BitVec.toNat_inj]
  omega

theorem SubtractionFlags.cy_iff {a v : Byte} {f : Flags} (h : SubtractionFlags a v false f) :
    f.cy = true ↔ a.toNat < v.toNat := by
  obtain ⟨hcy, -⟩ := h
  rw [hcy, decide_eq_true_iff]
  rfl

/-- What CMP and CPI leave after the operand `v` was read (R214, R215). -/
def ComparesWithA (s : State) (v : Byte) (r t : State) : Prop :=
  SubtractionFlags s.a v false t.f ∧ (t.f.z = true ↔ s.a = v) ∧ (t.f.cy = true ↔ s.a.toNat < v.toNat) ∧
    KeepsBut [] s r t

theorem comparesWithA_sub8 {s r : State} (read : KeepsBut [] s r r) (v : Byte) :
    ComparesWithA s v r (setAccFlags s.a (sub8 s.a v false).2 r) :=
  have flags := subtractionFlags_sub8 s.a v false
  ⟨flags, flags.z_iff, flags.cy_iff, read.restoreAccSetFlags _⟩

/-- Settles O53: the flags of `sub8`, with A put back. -/
theorem compareInstructions : Obligations.CompareInstructions := by
  intro s o v
  obtain ⟨cmp, cpi⟩ := alu_effect (op := .cmp) (P := ComparesWithA s) (fun x _ read => comparesWithA_sub8 read x) o v
  exact ⟨encodedAs_of_encode (encode_alu .cmp o), encodedAs_of_encode rfl, cmp, cpi⟩

/-! ## DAD -/

/-- DAD with any pair or SP: the sum modulo 2^16 in HL, its bit 16 in CY (R216). -/
theorem addPairToHl_effect (p : Pair) (s : State) :
    (joinBytes (addPairToHl p s).h (addPairToHl p s).l).toNat =
        ((joinBytes s.h s.l).toNat + (getPair p s).toNat) % 65536 ∧
      (addPairToHl p s).f =
        { s.f with cy := decide (65535 < (joinBytes s.h s.l).toNat + (getPair p s).toNat) } ∧
      KeepsBut [.h, .l] s s (addPairToHl p s) := by
  have hl : joinBytes (addPairToHl p s).h (addPairToHl p s).l =
      BitVec.ofNat 16 ((joinBytes s.h s.l).toNat + (getPair p s).toNat) := joinBytes_halves _
  rw [hl]
  exact ⟨BitVec.toNat_ofNat _ 16, rfl,
    (((KeepsBut.refl [.h, .l] s).setFlags _).setReg (q := .h) (by simp) _).setReg (q := .l) (by simp) _⟩

/-- Settles O54: `addPairToHl_effect` for the three pairs and SP. -/
theorem dadAddsPairs : Obligations.DadAddsPairs := by
  refine fun s => ⟨fun p => encodedAs_of_encode (encode_dad p), ?_⟩
  simp only [List.forall_mem_cons]
  exact ⟨⟨_, exec_dad (.rp .bc) s, addPairToHl_effect (.rp .bc) s⟩,
    ⟨_, exec_dad (.rp .de) s, addPairToHl_effect (.rp .de) s⟩,
    ⟨_, exec_dad (.rp .hl) s, addPairToHl_effect (.rp .hl) s⟩,
    ⟨_, exec_dad .sp s, addPairToHl_effect .sp s⟩, List.forall_mem_nil _⟩

end Sys2Proof.Machine
end

section
/-! Shifts of A (R239 to R243). RLC and RRC rotate the 8 bits of A (`rotateLeft_a`, `rotateRight_a`); RAL and RAR rotate
the 9 bits of the ring that CY closes over A (`rotateLeftThroughCarry_eq`, `rotateRightThroughCarry_eq`). A word rotated
by one place as often as it has bits is restored (`iterate_rotateWordLeft_width`), and a rotation to the right undoes
one to the left (`rotateWordRight_leftInverse`). -/

namespace Sys2Proof.Machine

/-! ## Rotations of a word -/

section
variable {w : Nat}

/-- Every bit moves one place up, round the end. -/
def rotateWordLeft (v : BitVec w) : BitVec w := v.rotateLeft 1

/-- Every bit moves one place down, round the end. -/
def rotateWordRight (v : BitVec w) : BitVec w := v.rotateRight 1

theorem getLsbD_rotateWordLeft (v : BitVec w) {i : Nat} (hi : i < w) :
    (rotateWordLeft v).getLsbD i = v.getLsbD (if i = 0 then w - 1 else i - 1) := by
  rw [rotateWordLeft, BitVec.getLsbD_rotateLeft]
  rcases Nat.lt_or_ge 1 w with wide | narrow
  · rcases i with _ | i <;> simp [Nat.mod_eq_of_lt wide, hi]
  · obtain ⟨rfl, rfl⟩ : w = 1 ∧ i = 0 := by omega
    simp

/-- A rotation to the left takes each bit to the next place, the top bit to place 0. -/
theorem getLsbD_rotateWordLeft_next (v : BitVec w) {i : Nat} (hi : i < w) :
    (rotateWordLeft v).getLsbD ((i + 1) % w) = v.getLsbD i := by
  rw [getLsbD_rotateWordLeft v (Nat.mod_lt _ (Nat.zero_lt_of_lt hi))]
  rcases Nat.lt_or_ge (i + 1) w with inside | top
  · simp [Nat.mod_eq_of_lt inside]
  · obtain rfl : w = i + 1 := by omega
    simp

/-- A rotation to the right takes each bit from the next place, the top bit from place 0. -/
theorem getLsbD_rotateWordRight (v : BitVec w) {i : Nat} (hi : i < w) :
    (rotateWordRight v).getLsbD i = v.getLsbD ((i + 1) % w) := by
  rw [rotateWordRight, BitVec.getLsbD_rotateRight]
  rcases Nat.lt_or_ge (i + 1) w with inside | top
  · have one : 1 % w = 1 := Nat.mod_eq_of_lt (by omega)
    have below : i < w - 1 := by omega
    simp [one, Nat.mod_eq_of_lt inside, below, Nat.add_comm 1 i]
  · obtain rfl : w = i + 1 := by omega
    rcases i with _ | i <;> simp

theorem getLsbD_iterate_rotateWordLeft (v : BitVec w) {i : Nat} (hi : i < w) (k : Nat) :
    (rotateWordLeft^[k] v).getLsbD ((i + k) % w) = v.getLsbD i := by
  induction k with
  | zero => rw [Nat.add_zero, Nat.mod_eq_of_lt hi, Function.iterate_zero_apply]
  | succ k ih =>
    rw [Function.iterate_succ_apply', ← Nat.add_assoc, ← Nat.mod_add_mod,
      getLsbD_rotateWordLeft_next _ (Nat.mod_lt _ (Nat.zero_lt_of_lt hi)), ih]

/-- As many rotations as there are bits bring every bit back to its place. -/
theorem iterate_rotateWordLeft_width (v : BitVec w) : rotateWordLeft^[w] v = v := by
  refine BitVec.eq_of_getLsbD_eq fun i hi => ?_
  have moved := getLsbD_iterate_rotateWordLeft v hi w
  rwa [Nat.add_mod_right, Nat.mod_eq_of_lt hi] at moved

theorem rotateWordRight_leftInverse : Function.LeftInverse (rotateWordRight (w := w)) rotateWordLeft :=
  fun v => BitVec.eq_of_getLsbD_eq fun i hi => by rw [getLsbD_rotateWordRight _ hi, getLsbD_rotateWordLeft_next _ hi]

theorem iterate_rotateWordRight_width (v : BitVec w) : rotateWordRight^[w] v = v := by
  have undone := rotateWordRight_leftInverse.iterate w v
  rwa [iterate_rotateWordLeft_width] at undone

end

/-! ## A with a bit shifted in -/

theorem toNat_shiftedLeft (a : Byte) (c : Bool) :
    (a.extractLsb' 0 7 ++ BitVec.ofBool c).toNat = 2 * a.toNat % 256 + c.toNat := by
  have bits : (a.extractLsb' 0 7 ++ BitVec.ofBool c).toNat = (a.extractLsb' 0 7).toNat * 2 + c.toNat :=
    BitVec.toNat_concat _ c
  rw [bits, BitVec.extractLsb'_toNat, Nat.shiftRight_zero]
  omega

theorem toNat_shiftedRight (a : Byte) (c : Bool) :
    (BitVec.ofBool c ++ a.extractLsb' 1 7).toNat = a.toNat / 2 + 128 * c.toNat := by
  have bits : (BitVec.ofBool c ++ a.extractLsb' 1 7).toNat = c.toNat <<< 7 + (a.extractLsb' 1 7).toNat :=
    BitVec.toNat_cons'
  have ha := a.isLt
  rw [bits, BitVec.extractLsb'_toNat, Nat.shiftLeft_eq, Nat.shiftRight_one]
  omega

theorem getLsbD_shiftedLeft (a : Byte) (c : Bool) {i : Nat} (hi : i < 8) :
    (a.extractLsb' 0 7 ++ BitVec.ofBool c).getLsbD i = if i = 0 then c else a.getLsbD (i - 1) := by
  refine BitVec.getLsbD_append.trans ?_
  rcases i with _ | i
  · simp
  · have inside : i < 7 := by omega
    simp [inside]

theorem getLsbD_shiftedRight (a : Byte) (c : Bool) {i : Nat} (hi : i < 8) :
    (BitVec.ofBool c ++ a.extractLsb' 1 7).getLsbD i = if i = 7 then c else a.getLsbD (i + 1) := by
  refine BitVec.getLsbD_append.trans ?_
  rcases Nat.lt_or_ge i 7 with inside | top
  · simp [inside, inside.ne, Nat.add_comm 1 i]
  · obtain rfl : i = 7 := by omega
    simp

theorem keepsBut_withShifted (a : Byte) (cy : Bool) (s : State) : KeepsBut [.a] s s (withShifted a cy s) :=
  keepsBut_setAccFlags a { s.f with cy := cy } s

/-- Settles O55: the byte by `toNat_shiftedLeft` and `toNat_shiftedRight`, with the bit that comes in. -/
theorem rotateInstructions : Obligations.RotateInstructions := fun s =>
  ⟨encodedAs_of_encode rfl, encodedAs_of_encode rfl, encodedAs_of_encode rfl, encodedAs_of_encode rfl,
    ⟨_, exec_rlc s, toNat_shiftedLeft s.a _, rfl, keepsBut_withShifted _ _ s⟩,
    ⟨_, exec_rrc s, toNat_shiftedRight s.a _, rfl, keepsBut_withShifted _ _ s⟩,
    ⟨_, exec_ral s, toNat_shiftedLeft s.a _, rfl, keepsBut_withShifted _ _ s⟩,
    ⟨_, exec_rar s, toNat_shiftedRight s.a _, rfl, keepsBut_withShifted _ _ s⟩⟩

/-! ## A as a ring of 8 bits -/

theorem rotateLeft_a (s : State) : (rotateLeft s).a = rotateWordLeft s.a := by
  have shifted : (rotateLeft s).a = s.a.extractLsb' 0 7 ++ BitVec.ofBool (s.a.getLsbD 7) := rfl
  refine shifted.trans (BitVec.eq_of_getLsbD_eq fun i hi => ?_)
  rw [getLsbD_shiftedLeft _ _ hi, getLsbD_rotateWordLeft _ hi, apply_ite s.a.getLsbD]

theorem rotateRight_a (s : State) : (rotateRight s).a = rotateWordRight s.a := by
  have shifted : (rotateRight s).a = BitVec.ofBool (s.a.getLsbD 0) ++ s.a.extractLsb' 1 7 := rfl
  refine shifted.trans (BitVec.eq_of_getLsbD_eq fun i hi => ?_)
  rw [getLsbD_shiftedRight _ _ hi, getLsbD_rotateWordRight _ hi]
  split
  next top => rw [top]
  next below => rw [Nat.mod_eq_of_lt (by omega)]

/-! ## A and CY as a ring of 9 bits -/

/-- CY above bit 7 of A: the bits that RAL and RAR move (R242, R243). -/
def carryRing (s : State) : BitVec 9 := BitVec.cons s.f.cy s.a

/-- A and CY taken from a ring. -/
def withCarryRing (v : BitVec 9) (s : State) : State := withShifted (v.setWidth 8) v.msb s

@[simp] theorem carryRing_withCarryRing (v : BitVec 9) (s : State) : carryRing (withCarryRing v s) = v :=
  BitVec.cons_msb_setWidth v

@[simp] theorem withCarryRing_carryRing (s : State) : withCarryRing (carryRing s) s = s := by
  simp [withCarryRing, carryRing, withShifted]

@[simp] theorem withCarryRing_withCarryRing (v u : BitVec 9) (s : State) :
    withCarryRing v (withCarryRing u s) = withCarryRing v s := rfl

theorem getLsbD_carryRing (s : State) (i : Nat) :
    (carryRing s).getLsbD i = if i = 8 then s.f.cy else s.a.getLsbD i :=
  BitVec.getLsbD_cons s.f.cy s.a i

theorem rotateLeftThroughCarry_eq (s : State) :
    rotateLeftThroughCarry s = withCarryRing (rotateWordLeft (carryRing s)) s := by
  have low : s.a.extractLsb' 0 7 ++ BitVec.ofBool s.f.cy = (rotateWordLeft (carryRing s)).setWidth 8 := by
    refine BitVec.eq_of_getLsbD_eq fun i hi => ?_
    rw [getLsbD_shiftedLeft _ _ hi, BitVec.getLsbD_setWidth, getLsbD_rotateWordLeft _ (by omega), getLsbD_carryRing]
    rcases i with _ | i
    · rfl
    · have notCy : i ≠ 8 := by omega
      simp [hi, notCy]
  have top : s.a.getLsbD 7 = (rotateWordLeft (carryRing s)).msb := by
    rw [BitVec.msb_eq_getLsbD_last, getLsbD_rotateWordLeft _ (by decide), getLsbD_carryRing]
    rfl
  rw [withCarryRing, ← low, ← top, rotateLeftThroughCarry]

theorem rotateRightThroughCarry_eq (s : State) :
    rotateRightThroughCarry s = withCarryRing (rotateWordRight (carryRing s)) s := by
  have low : BitVec.ofBool s.f.cy ++ s.a.extractLsb' 1 7 = (rotateWordRight (carryRing s)).setWidth 8 := by
    refine BitVec.eq_of_getLsbD_eq fun i hi => ?_
    rw [getLsbD_shiftedRight _ _ hi, BitVec.getLsbD_setWidth, getLsbD_rotateWordRight _ (by omega), getLsbD_carryRing,
      Nat.mod_eq_of_lt (by omega)]
    simp [hi]
  have top : s.a.getLsbD 0 = (rotateWordRight (carryRing s)).msb := by
    rw [BitVec.msb_eq_getLsbD_last, getLsbD_rotateWordRight _ (by decide), getLsbD_carryRing]
    rfl
  rw [withCarryRing, ← low, ← top, rotateRightThroughCarry]

/-- An operation that changes the ring only, iterated. -/
theorem iterate_withCarryRing {f : State → State} {g : BitVec 9 → BitVec 9}
    (h : ∀ s, f s = withCarryRing (g (carryRing s)) s) (n : Nat) (s : State) :
    f^[n] s = withCarryRing (g^[n] (carryRing s)) s := by
  induction n with
  | zero => exact (withCarryRing_carryRing s).symm
  | succ n ih => simp only [Function.iterate_succ_apply', h, ih, carryRing_withCarryRing, withCarryRing_withCarryRing]

/-- Settles O56: a ring of 8 bits for RLC and RRC, of 9 for RAL and RAR. -/
theorem rotateCyclesRestore : Obligations.RotateCyclesRestore := by
  refine fun s => ⟨⟨_, repeatExec_of_next exec_rlc 8 s, ?_⟩, ⟨_, repeatExec_of_next exec_rrc 8 s, ?_⟩, ?_, ?_,
    _, exec_ral s, ?_⟩
  · have bits : Function.Semiconj State.a rotateLeft rotateWordLeft := rotateLeft_a
    rw [bits.iterate_right 8 s, iterate_rotateWordLeft_width]
  · have bits : Function.Semiconj State.a rotateRight rotateWordRight := rotateRight_a
    rw [bits.iterate_right 8 s, iterate_rotateWordRight_width]
  · rw [repeatExec_of_next exec_ral, iterate_withCarryRing rotateLeftThroughCarry_eq, iterate_rotateWordLeft_width,
      withCarryRing_carryRing]
  · rw [repeatExec_of_next exec_rar, iterate_withCarryRing rotateRightThroughCarry_eq, iterate_rotateWordRight_width,
      withCarryRing_carryRing]
  · rw [exec_rar, rotateRightThroughCarry_eq, rotateLeftThroughCarry_eq, carryRing_withCarryRing,
      rotateWordRight_leftInverse, withCarryRing_withCarryRing, withCarryRing_carryRing]

end Sys2Proof.Machine
end

section
/-! The ways of a step from their causes (R325), the converse of `step_cases`; reset (R350) and a request that is not
accepted (R321). -/

namespace Sys2Proof.Machine

theorem step_resets {s : State} (hreset : (currentInput s).reset = true) :
    step s = .next (applyReset (afterInput s)) := by
  unfold step
  rw [atBoundary_reset s hreset]

/-- A step at which a request is accepted is what the entry makes of the supplied bytes. -/
theorem step_takes {s : State} {bytes : List Byte} (hreset : (currentInput s).reset = false)
    (hrequest : (currentInput s).request = some bytes) (haccept : acceptsRequest s = true) :
    step s = takeInterrupt bytes (afterInput s) := by
  unfold step
  rw [atBoundary_accept s bytes hreset hrequest haccept]

theorem takeInterrupt_of_call {s : State} {bytes : List Byte} {target : Word}
    (h : readSupplied s.params.undefOpcode bytes = .call target) :
    takeInterrupt bytes s = checked stackUses (beginEntry s) (.next (enterInterrupt target s)) := by
  unfold takeInterrupt
  rw [h]

/-- RST n or a complete CALL supplied, and SP written where R351 asks for it: the entry is carried out (R322). -/
theorem step_enters {s : State} {bytes : List Byte} {target : Word} (hreset : (currentInput s).reset = false)
    (hrequest : (currentInput s).request = some bytes) (haccept : acceptsRequest s = true)
    (hread : readSupplied s.params.undefOpcode bytes = .call target) (hmay : MayRead [.sp] s) :
    step s = .next (markItems [.sp] (enterInterrupt target (afterInput s))) := by
  have passes : MayRead stackUses.reads (beginEntry (afterInput s)) := hmay
  have read : readSupplied (afterInput s).params.undefOpcode bytes = .call target := hread
  rw [step_takes hreset hrequest haccept, takeInterrupt_of_call read, checked_pass _ _ _ passes]
  rfl

/-- Step (5) of R26 on the state an instruction leaves. -/
def afterStepFive (i : Instr) (s : State) : State :=
  if isEnableInterrupts i then s else { s with eiDelay := false }

/-- The boundary of `s` leads to the instruction `i`, whose fetch leaves `v`; it passes the check of R351 and completes
in `u`. -/
structure RunsInstr (s : State) (i : Instr) (v u : State) : Prop where
  noReset : (currentInput s).reset = false
  noEntry : (currentInput s).request = none ∨ acceptsRequest s = false
  running : s.halted = false
  fetched : fetchInstr (afterInput s) = (i, v)
  mayRead : MayRead (uses i v).reads v
  completes : exec i v = .next u

/-- Such a step ends with step (5), and the writes of the instruction are marked. -/
theorem RunsInstr.step_eq {s v u : State} {i : Instr} (h : RunsInstr s i v u) :
    step s = .next (markItems (uses i v).writes (afterStepFive i u)) := by
  rw [step_execute s h.noReset h.noEntry h.running, h.fetched, checked_pass _ _ _ h.mayRead, h.completes,
    finishStep_next, afterStepFive]
  split <;> rfl

@[simp] theorem afterStepFive_written (i : Instr) (s : State) : (afterStepFive i s).written = s.written := by
  unfold afterStepFive
  split <;> rfl

/-- Settles O14: reset comes first at a boundary (R325), whatever else the state and the input hold. -/
theorem resetEvent : Obligations.ResetEvent := fun _ hreset => step_resets hreset

/-- Settles O24: with no accepted request both boundaries go on from the state with the input taken off. -/
theorem requestNotAccepted : Obligations.RequestNotAccepted := by
  intro s bytes later hinputs hrefused
  have refused : acceptsRequest s = false := acceptsRequest_eq_false.mpr hrefused
  have noReset : (currentInput s).reset = false := by simp [currentInput, hinputs]
  have same : afterInput { s with inputs := .quiet :: later } = afterInput s := by simp [afterInput, hinputs]
  have boundary : atBoundary { s with inputs := .quiet :: later } = atBoundary s := by
    rw [atBoundary_go s noReset (.inr refused), atBoundary_go _ rfl (.inl rfl), same]
  unfold step
  rw [boundary]

end Sys2Proof.Machine
end

section
/-! What an instruction leaves of PC and of the marks (R25, R249, R351), and that each of the set completes (R310). -/

namespace Sys2Proof.Machine

/-- `exec` marks nothing as written, and moves PC only by an instruction that transfers control. -/
structure Proceeds (i : Instr) (s t : State) : Prop where
  written : t.written = s.written
  pc : ¬ transfersControl i → t.pc = s.pc

section
variable {i : Instr} {s t u : State}

/-- An instruction of another group than 8, settled on the operation its `exec` equation names. -/
theorem Proceeds.of_next {o : Result} (e : o = .next u) (h : o = .next t) (hwritten : u.written = s.written)
    (hpc : u.pc = s.pc) : Proceeds i s t := by
  obtain rfl : u = t := Host.Outcome.next.inj (e.symm.trans h)
  exact ⟨hwritten, fun _ => hpc⟩

/-- An instruction of group 8, settled likewise. -/
theorem Proceeds.of_transfer {o : Result} (hi : transfersControl i) (e : o = .next u) (h : o = .next t)
    (hwritten : u.written = s.written) : Proceeds i s t := by
  obtain rfl : u = t := Host.Outcome.next.inj (e.symm.trans h)
  exact ⟨hwritten, fun other => absurd hi other⟩

/-- An operation that is done or left out by a condition. -/
theorem written_ite (c : Bool) (h : t.written = s.written) : (if c then t else s).written = s.written := by
  cases c with
  | true => exact h
  | false => rfl

end

@[simp] theorem set8_written (o : Operand8) (v : Byte) (s : State) : (set8 o v s).written = s.written := by
  cases o <;> simp

@[simp] theorem set8_pc (o : Operand8) (v : Byte) (s : State) : (set8 o v s).pc = s.pc := by
  cases o <;> simp

/-- The unused codes that run as NOP leave PC; the others run as an instruction of group 8 (R105). -/
theorem pc_exec_unused {i : Instr} {s t : State} (ill : i.wellFormed = false) (hi : ¬ transfersControl i)
    (h : exec i s = .next t) : t.pc = s.pc := by
  cases i with
  | unused08 | unused10 | unused18 | unused20 | unused28 | unused30 | unused38 =>
    exact congrArg State.pc (unusedCode_eq_next h)
  | unusedCB adr | unusedDD adr | unusedED adr | unusedFD adr => exact absurd (.inl ⟨adr, by simp⟩) hi
  | unusedD9 => simp [transfersControl] at hi
  | _ => cases ill

theorem proceeds_exec {i : Instr} {s t : State} (h : exec i s = .next t) : Proceeds i s t := by
  cases form i with
  -- groups 1 to 4
  | mov dst src => exact .of_next (exec_mov dst src s) h (setReg_written ..) (setReg_pc ..)
  | movFromM dst => exact .of_next (exec_movFromM dst s) h (by simp [moveFromMemory]) (by simp [moveFromMemory])
  | movToM src => exact .of_next (exec_movToM src s) h (memWrite_written ..) (memWrite_pc ..)
  | mvi dst v => exact .of_next (exec_mvi dst v s) h (setReg_written ..) (setReg_pc ..)
  | mviM v => exact .of_next (exec_mviM v s) h (memWrite_written ..) (memWrite_pc ..)
  | staxB => exact .of_next (exec_staxB s) h (memWrite_written ..) (memWrite_pc ..)
  | staxD => exact .of_next (exec_staxD s) h (memWrite_written ..) (memWrite_pc ..)
  | ldaxB => exact .of_next (exec_ldaxB s) h (memRead_written ..) (memRead_pc ..)
  | ldaxD => exact .of_next (exec_ldaxD s) h (memRead_written ..) (memRead_pc ..)
  | sta adr => exact .of_next (exec_sta adr s) h (memWrite_written ..) (memWrite_pc ..)
  | lda adr => exact .of_next (exec_lda adr s) h (memRead_written ..) (memRead_pc ..)
  | lxi p v => exact .of_next (exec_lxi p v s) h (setPair_written ..) (setPair_pc ..)
  | shld adr => exact .of_next (exec_shld adr s) h (by simp [storeHlDirect]) (by simp [storeHlDirect])
  | lhld adr => exact .of_next (exec_lhld adr s) h (by simp [loadHlDirect]) (by simp [loadHlDirect])
  | push p => exact .of_next (exec_push p s) h (push16_written ..) (push16_pc ..)
  | pop p => exact .of_next (exec_pop p s) h (by simp [popPair]) (by simp [popPair])
  | pushPSW => exact .of_next (exec_pushPSW s) h (push16_written ..) (push16_pc ..)
  | popPSW => exact .of_next (exec_popPSW s) h (pop16_written s) (pop16_pc s)
  | inN n => exact .of_next (exec_inN n s) h (by simp [inputFrom, ioRead_eq]) (by simp [inputFrom, ioRead_eq])
  | xthl => exact .of_next (exec_xthl s) h (by simp [exchangeHlStack]) (by simp [exchangeHlStack])
  -- groups 5 and 6
  | inr o => exact .of_next (exec_inr o s) h (by simp [incrementOperand]) (by simp [incrementOperand])
  | dcr o => exact .of_next (exec_dcr o s) h (by simp [decrementOperand]) (by simp [decrementOperand])
  | inx p => exact .of_next (exec_inx p s) h (setPair_written ..) (setPair_pc ..)
  | dcx p => exact .of_next (exec_dcx p s) h (setPair_written ..) (setPair_pc ..)
  | alu op o => exact .of_next (exec_alu op o s) h (get8_written o s) (get8_pc o s)
  | aluImm op v => exact .of_next (exec_aluImm op v s) h rfl rfl
  | dad p => exact .of_next (exec_dad p s) h rfl rfl
  -- group 8
  | jmp adr => exact .of_transfer (.inl ⟨adr, by simp⟩) (exec_jmp adr s) h rfl
  | pchl => exact .of_transfer (by simp [transfersControl]) (exec_pchl s) h rfl
  | call adr => exact .of_transfer (.inl ⟨adr, by simp⟩) (exec_call adr s) h (callTo_written adr s)
  | ret => exact .of_transfer (by simp [transfersControl]) (exec_ret s) h (returnFrom_written s)
  | jumpCond cond adr =>
    exact .of_transfer (.inr (.inl ⟨cond, adr, .inl rfl⟩)) (exec_jumpCond cond adr s) h (written_ite _ rfl)
  | callCond cond adr =>
    exact .of_transfer (.inr (.inl ⟨cond, adr, .inr rfl⟩)) (exec_callCond cond adr s) h
      (written_ite _ (callTo_written adr s))
  | retCond cond =>
    exact .of_transfer (.inr (.inr (.inl ⟨cond, rfl⟩))) (exec_retCond cond s) h (written_ite _ (returnFrom_written s))
  | rst n => exact .of_transfer (.inr (.inr (.inr (.inl ⟨n, rfl⟩)))) (exec_rst n s) h (callTo_written _ s)
  -- fields of the processor only
  | sphl | outN | xchg | cmc | stc | cma | daa | rlc | rrc | ral | rar | nop | hlt | ei | di =>
    exact .of_next rfl h rfl rfl
  | unused _ code documented run ill one =>
    refine ⟨?_, fun hi => pc_exec_unused ill hi h⟩
    obtain rfl := unusedCode_eq_next ((run s).symm.trans h)
    obtain rfl | ⟨adr, rfl⟩ | ⟨adr, rfl⟩ | rfl := one
    · rfl
    · rfl
    · exact callTo_written adr s
    · exact returnFrom_written s

/-- Settles O30: the part of `proceeds_exec` about PC. -/
theorem pcMovesPastInstruction : Obligations.PcMovesPastInstruction := fun _ _ _ hi h => (proceeds_exec h).pc hi

/-- Every form but that of the unused codes names the operation it goes on with (R310). -/
theorem exec_completes {i : Instr} (hi : i.wellFormed = true) (s : State) : ∃ t, exec i s = .next t := by
  cases form i with
  | unused _ _ _ _ ill _ => simp [hi] at ill
  | _ => simp

/-- Settles O27: `exec_completes`; what an instruction does to its surroundings is `extends_exec`. -/
theorem usedInstructionsComplete : Obligations.UsedInstructionsComplete := by
  intro i s hi
  obtain ⟨t, h⟩ := exec_completes hi s
  exact ⟨t, h, (extends_exec h).params, (extends_exec h).inputs⟩

end Sys2Proof.Machine
end

section
/-! Two runs under `fault_on_read` (R351, R48): states that agree on what has been written and outside the items. The
boundary and the fetch look at no item, the entry looks at SP, an instruction at its reads, which have all been written;
what a step writes becomes known in both. -/

namespace Sys2Proof.Machine

/-! ## Operations that touch no item -/

section
variable {xs : List Item} {s s' : State}

/-- An operation outside the items keeps what is agreed on. -/
theorem Respects.keeps_agreement {op : State → State} (h : Respects ⟨xs, []⟩ op) (a : AgreeOn xs s s') :
    AgreeOn xs (op s) (op s') :=
  h.agree_more a

/-- An operation that leaves the items, and to the rest does the same whatever they are. -/
theorem Respects.of_replaced {op : State → State} (hitems : ∀ s, items (op s) = items s)
    (hout : ∀ (s : State) a b c d e h l f sp, outside (op { s with
      a := a, b := b, c := c, d := d, e := e, h := h, l := l, f := f, sp := sp }) = outside (op s)) :
    Respects ⟨xs, []⟩ op :=
  .of_outside hitems fun s s' e => by
    obtain ⟨_, _, _, _, _, _, _, _, _, rfl⟩ := eq_of_outside e
    exact hout s _ _ _ _ _ _ _ _ _

theorem respects_afterInput : Respects ⟨xs, []⟩ afterInput := .of_replaced (fun _ => rfl) (by intros; rfl)

theorem respects_applyReset : Respects ⟨xs, []⟩ applyReset := .of_replaced (fun _ => rfl) (by intros; rfl)

theorem respects_beginEntry : Respects ⟨xs, []⟩ beginEntry := .of_replaced (fun _ => rfl) (by intros; rfl)

theorem respects_markItems (ws : List Item) : Respects ⟨xs, []⟩ (markItems ws) :=
  .of_replaced (fun _ => rfl) (by intros; rfl)

/-- EIDelay cleared, as by the entry and by step (5) of R26. -/
def clearDelay (s : State) : State := { s with eiDelay := false }

theorem respects_clearDelay : Respects ⟨xs, []⟩ clearDelay := .of_replaced (fun _ => rfl) (by intros; rfl)

theorem AgreeOn.afterStepFive (a : AgreeOn xs s s') (i : Instr) :
    AgreeOn xs (afterStepFive i s) (afterStepFive i s') := by
  unfold Machine.afterStepFive
  split
  · exact a
  · exact respects_clearDelay.keeps_agreement a

/-! ## The fetch -/

/-- What two runs fetch: the same thing, leaving states that agree as before. -/
def SameFetch {α : Type} (xs : List Item) (r r' : α × State) : Prop := r'.1 = r.1 ∧ AgreeOn xs r.2 r'.2

theorem SameFetch.map {α β : Type} {r r' : α × State} (h : SameFetch xs r r') (f : α → β) :
    SameFetch xs (f r.1, r.2) (f r'.1, r'.2) :=
  ⟨congrArg f h.1, h.2⟩

theorem computes_fetch8 : Computes ⟨xs, []⟩ (fun s => (fetch8 s).2) :=
  .of_value (g := fun pc s => jumpTo (pc + 1) (memRead pc s).2) dependsOn_pc fun pc =>
    (computes_memRead pc).comp (computes_jumpTo (pc + 1))

theorem sameFetch_fetch8 (a : AgreeOn xs s s') : SameFetch xs (fetch8 s) (fetch8 s') :=
  ⟨dependsOn_memRead dependsOn_pc s s' a, computes_fetch8.agree_more a⟩

theorem sameFetch_fetch16 (a : AgreeOn xs s s') : SameFetch xs (fetch16 s) (fetch16 s') := by
  obtain ⟨lo, afterLo⟩ := sameFetch_fetch8 a
  obtain ⟨hi, afterHi⟩ := sameFetch_fetch8 afterLo
  exact ⟨by simp only [fetch16, lo, hi], afterHi⟩

/-- The fetch looks at PC, memory, the environment and the policy for unused codes, and at no item. -/
theorem sameFetch_fetchInstr (a : AgreeOn xs s s') : SameFetch xs (fetchInstr s) (fetchInstr s') := by
  obtain ⟨op, afterOp⟩ := sameFetch_fetch8 a
  have policy : s'.params = s.params := dependsOn_params s s' a
  unfold fetchInstr
  dsimp only
  rw [op, policy]
  split
  · exact ⟨rfl, afterOp⟩
  · exact (sameFetch_fetch8 afterOp).map _
  · exact (sameFetch_fetch16 afterOp).map _
  · split
    · exact ⟨rfl, afterOp⟩
    · exact (sameFetch_fetch16 afterOp).map _

/-! ## Entry and instructions -/

/-- The entry reads and writes SP, and no other item. -/
theorem agreeOn_enterInterrupt (hsp : .sp ∈ xs) (target : Word) (a : AgreeOn xs s s') :
    AgreeOn ([.sp] ++ xs) (enterInterrupt target s) (enterInterrupt target s') := by
  have begun : AgreeOn xs (beginEntry s) (beginEntry s') := respects_beginEntry.keeps_agreement a
  have called := (computes_callTo hsp target).agree_more begun
  exact respects_clearDelay.keeps_agreement called

/-- An instruction whose reads are agreed on is carried out alike, and what it writes is agreed on beside the rest. -/
theorem agreeOn_exec {i : Instr} {t : State} (h : exec i s = .next t) (hreads : (uses i s).reads ⊆ xs)
    (a : AgreeOn xs s s') :
    uses i s' = uses i s ∧ ∃ t', exec i s' = .next t' ∧ AgreeOn ((uses i s).writes ++ xs) t t' := by
  obtain ⟨hu, t', h', agree⟩ := (accounted_exec h).agree s' (a.mono hreads)
  refine ⟨hu, t', h', (agreeOn_iff _ _ _).mpr ⟨fun x hx => ?_, agree.outside⟩⟩
  by_cases hw : x ∈ (uses i s).writes
  · exact agree.items x hw
  · have known : x ∈ xs := (List.mem_append.mp hx).resolve_left hw
    have kept : itemValue x t' = itemValue x s' := (accounted_exec h').frame x (by rwa [hu])
    rw [kept, (accounted_exec h).frame x hw, a.items x known]

end

/-! ## Steps -/

section
variable {s s' t u : State}

/-- After marking, the known items are those known before and the new ones. -/
theorem AgreeOn.marked {ws : List Item} {u' : State} (a : AgreeOn (ws ++ s.written) u u') (h : u.written = s.written) :
    AgreeOn (markItems ws u).written (markItems ws u) (markItems ws u') := by
  refine ((respects_markItems ws).keeps_agreement a).mono fun x hx => ?_
  rw [mem_markItems, h] at hx
  exact List.mem_append.mpr hx.symm

/-- The boundary looks at the schedule and the control bits. -/
theorem AgreeOn.boundary {xs : List Item} (a : AgreeOn xs s s') :
    currentInput s' = currentInput s ∧ acceptsRequest s' = acceptsRequest s ∧ s'.halted = s.halted ∧
      s'.params = s.params ∧ s'.written = s.written := by
  obtain ⟨_, _, _, _, _, _, _, _, _, rfl⟩ := eq_of_outside a.outside
  exact ⟨rfl, rfl, rfl, rfl, rfl⟩

/-- What a state may read, one with the same parameters and marks may read. -/
theorem mayRead_congr {xs : List Item} (hp : s'.params = s.params) (hw : s'.written = s.written) :
    MayRead xs s' ↔ MayRead xs s := by
  unfold MayRead
  rw [hp, hw]

/-- The fetch leaves the parameters and the marks. -/
theorem RunsInstr.fetch_keeps {i : Instr} {v : State} (h : RunsInstr s i v u) :
    v.params = s.params ∧ v.written = s.written := by
  have left : (fetchInstr (afterInput s)).2 = v := congrArg Prod.snd h.fetched
  simp [← left]

/-- Where one run carries out an instruction whose reads have all been written, the other carries it out alike. -/
theorem RunsInstr.agrees {i : Instr} {v : State} (h : RunsInstr s i v u)
    (hp : s.params.resetUnspecified = .faultOnRead) (a : AgreeOn s.written s s') :
    ∃ v' u', RunsInstr s' i v' u' ∧ uses i v' = uses i v ∧ AgreeOn ((uses i v).writes ++ s.written) u u' := by
  obtain ⟨input, accepts, halted, -, -⟩ := a.boundary
  obtain ⟨instr, fetched⟩ := sameFetch_fetchInstr (respects_afterInput.keeps_agreement a)
  obtain ⟨vParams, vWritten⟩ := h.fetch_keeps
  simp only [h.fetched] at instr fetched
  have reads : (uses i v).reads ⊆ s.written := vWritten ▸ h.mayRead (vParams ▸ hp)
  obtain ⟨-, -, -, params, written⟩ := fetched.boundary
  obtain ⟨sameUses, u', completes, agree⟩ := agreeOn_exec h.completes reads fetched
  refine ⟨_, u', ⟨input ▸ h.noReset, ?_, halted.trans h.running, Prod.ext instr rfl, ?_, completes⟩, sameUses, agree⟩
  · rw [input, accepts]
    exact h.noEntry
  · rw [sameUses, mayRead_congr params written]
    exact h.mayRead

end

/-- Settles O35: in each of the four ways of a step (R325) the second run goes the same way, from `AgreeOn` on the
written items. -/
theorem stepIgnoresUnwritten : Obligations.StepIgnoresUnwritten := by
  intro s t s' hp h a
  obtain ⟨input, accepts, halted, params, written⟩ := a.boundary
  have taken : AgreeOn s.written (afterInput s) (afterInput s') := respects_afterInput.keeps_agreement a
  obtain ⟨hreset, rfl⟩ | ⟨hreset, haccept, bytes, target, hrequest, hread, hmay, rfl⟩ | ⟨hreset, hgo, hhalted, rfl⟩ |
    ⟨hreset, hgo, hhalted, u, hexec, hmay, ht⟩ := step_cases s t h
  case inl => exact ⟨_, step_resets (input ▸ hreset), respects_applyReset.keeps_agreement taken⟩
  case inr.inl =>
    have hsp : .sp ∈ s.written := hmay hp .sp (by simp)
    have enters := step_enters (s := s') (input ▸ hreset) (input ▸ hrequest) (accepts.trans haccept)
      (params ▸ hread) ((mayRead_congr params written).mpr hmay)
    exact ⟨_, enters, (agreeOn_enterInterrupt hsp target taken).marked (by simp)⟩
  case inr.inr.inl => exact ⟨_, step_waits (input ▸ hreset) (by rwa [input, accepts]) (halted.trans hhalted), taken⟩
  case inr.inr.inr =>
    have runs : RunsInstr s _ _ u := ⟨hreset, hgo, hhalted, rfl, hmay, hexec⟩
    obtain ⟨v', u', runs', sameUses, agree⟩ := runs.agrees hp a
    obtain rfl : t = _ := ht
    refine ⟨_, runs'.step_eq, ?_⟩
    rw [sameUses]
    have unmarked : u.written = s.written := (proceeds_exec runs.completes).written.trans runs.fetch_keeps.2
    exact (agree.afterStepFive _).marked (by simpa using unmarked)

end Sys2Proof.Machine
end

section
/-! An accepted request (R322 to R324, R311): what the supplied bytes are read as, the entry, the return from it, and
the stops. -/

namespace Sys2Proof.Machine

/-! ## The supplied bytes -/

theorem encode_rst (n : Fin 8) : encode (.rst n) = [0b11#2 ++ BitVec.ofNat 3 n.val ++ 0b111#3] := by
  fin_cases n <;> rfl

/-- A supplied RST n is a call of its entry address (R264). -/
theorem readSupplied_rst (policy : UndefOpcodePolicy) (n : Fin 8) :
    readSupplied policy (encode (.rst n)) = .call (BitVec.ofNat 16 (8 * n.val)) := by
  fin_cases n <;> rfl

/-- A supplied CALL is a call of its address. -/
theorem readSupplied_call (policy : UndefOpcodePolicy) (target : Word) :
    readSupplied policy (encode (.call target)) = .call target := by
  have read : readSupplied policy (encode (.call target)) = .call (joinBytes (highByte target) (lowByte target)) := rfl
  rw [read, joinBytes_halves]

/-- The codes `11 nnn 111` are those of RST n (R97). -/
theorem encode_rst_restartField : ∀ op : Byte, isRestartCode op = true → [op] = encode (.rst (restartField op)) := by
  decide

theorem unusedCodes_not_calls : ∀ op ∈ unusedCodes, isRestartCode op = false ∧ isCallCode .fault op = false := by
  decide

theorem callAliases_subset_unusedCodes : callAliases ⊆ unusedCodes := by decide

theorem readSupplied_unused {op : Byte} (h : op ∈ unusedCodes) (rest : List Byte) :
    readSupplied .fault (op :: rest) = .unused op := by
  obtain ⟨notRst, notCall⟩ := unusedCodes_not_calls op h
  simp [readSupplied, notRst, notCall, h]

/-- Neither RST n nor CALL nor an unused code: the refusal of R322, under both policies. -/
theorem readSupplied_other {op : Byte} (policy : UndefOpcodePolicy) (used : op ∉ unusedCodes) (notCall : op ≠ 0xCD)
    (notRst : ∀ n : Fin 8, [op] ≠ encode (.rst n)) (rest : List Byte) :
    readSupplied policy (op :: rest) = .other op := by
  have noRestart : isRestartCode op = false :=
    Bool.eq_false_iff.mpr fun h => notRst _ (encode_rst_restartField op h)
  have notAlias : op ∉ callAliases := fun h => used (callAliases_subset_unusedCodes h)
  have noCall : isCallCode policy op = false := by
    rw [isCallCode, beq_eq_false_iff_ne.mpr notCall]
    simp [notAlias]
  simp [readSupplied, noRestart, noCall, used]

/-! ## The entry and the return from it -/

/-- The schedule is no part of what `Calls` speaks of. -/
theorem Calls.of_taken {target : Word} {s t : State} (h : Calls target (afterInput s) t) : Calls target s t := by
  obtain ⟨hpc, hsp, stores, regs, flags⟩ := h
  exact ⟨hpc, hsp, stores, fun r => (regs r).trans (by cases r <;> rfl), flags⟩

/-- Nor are the marks. -/
theorem Calls.marked {target : Word} {s t : State} (h : Calls target s t) (ws : List Item) :
    Calls target s (markItems ws t) := by
  obtain ⟨hpc, hsp, stores, regs, flags⟩ := h
  exact ⟨hpc, hsp, stores, fun r => (getReg_markItems r ws t).trans (regs r), flags⟩

/-- Settles O23: `readSupplied_rst` and `readSupplied_call` give the target, `calls_enterInterrupt` the call. -/
theorem acceptedInterruptEntry : Obligations.AcceptedInterruptEntry := by
  intro s bytes target hinte hei hreset hrequest hbytes hmay
  have read : readSupplied s.params.undefOpcode bytes = .call target := by
    obtain ⟨n, rfl, rfl⟩ | rfl := hbytes
    · exact readSupplied_rst _ n
    · exact readSupplied_call _ target
  exact ⟨_, step_enters hreset hrequest (acceptsRequest_eq_true.mpr ⟨hinte, hei⟩) read hmay, by simp, by simp, by simp,
    (calls_enterInterrupt target (afterInput s)).of_taken.marked [.sp], by simp, by simp, fun x => by simp⟩

/-- RET right after a call whose return address went into two `ram` cells goes back to it, SP as before (R82, R83). -/
theorem returnFrom_of_calls {target : Word} {s t : State} (h : Calls target s t) (hparams : t.params = s.params)
    (hhigh : IsRam s (s.sp - 1)) (hlow : IsRam s (s.sp - 2)) :
    (returnFrom t).pc = s.pc ∧ (returnFrom t).sp = s.sp := by
  obtain ⟨-, hsp, ⟨stored, -⟩, -, -⟩ := h
  have high : readCell t.mem (s.sp - 1).toNat = highByte s.pc := stored (s.sp - 1, highByte s.pc) (by simp) hhigh
  have low : readCell t.mem (s.sp - 2).toNat = lowByte s.pc := stored (s.sp - 2, lowByte s.pc) (by simp) hlow
  have next : s.sp - 2 + 1 = s.sp - 1 := by bv_omega
  have readsLow : ReadsCell t t.sp := .inl (by rw [hparams, hsp]; exact hlow)
  have readsHigh : ReadsCell t (t.sp + 1) := .inl (by rw [hparams, hsp, next]; exact hhigh)
  have popped : (pop16 t).1 = s.pc := by
    rw [pop16_of_readsCell t readsLow readsHigh, hsp, next, high, low, joinBytes_halves]
  exact ⟨popped, by rw [returnFrom_sp, hsp, BitVec.sub_add_cancel]⟩

/-- Settles O26: the entry is a call (`acceptedInterruptEntry`), and RET undoes a call (`returnFrom_of_calls`). -/
theorem interruptThenReturn : Obligations.InterruptThenReturn := by
  intro s n hinte hei hreset hrequest hhigh hlow hmay
  obtain ⟨t, hstep, tinte, -, -, calls, -, hparams, -⟩ :=
    acceptedInterruptEntry s _ _ hinte hei hreset hrequest (.inl ⟨n, rfl, rfl⟩) hmay
  obtain ⟨hpc, hsp⟩ := returnFrom_of_calls calls hparams hhigh hlow
  obtain ⟨-, -, -, regs, flags⟩ := calls
  exact ⟨t, _, hstep, exec_ret t, hpc, hsp, fun r => (getReg_returnFrom r t).trans (regs r),
    (returnFrom_f t).trans flags, (returnFrom_inte t).trans tinte⟩

/-! ## The stops -/

/-- Settles O25: `readSupplied_unused` and `readSupplied_other`, each with the stop that the entry makes of it. -/
theorem suppliedOtherStops : Obligations.SuppliedOtherStops := by
  intro s op rest hinte hei hreset hrequest
  have taken := step_takes hreset hrequest (acceptsRequest_eq_true.mpr ⟨hinte, hei⟩)
  refine ⟨fun hunused hfault => ?_, fun used notCall notRst => ?_⟩
  · rw [taken, takeInterrupt, afterInput_params, hfault, readSupplied_unused hunused]
    rfl
  · rw [taken, takeInterrupt, readSupplied_other _ used notCall notRst]

end Sys2Proof.Machine
end

section
/-! The faults of a step (R311, R351): an unused code fetched under `fault`, a read of an item never written, and no
others. -/

namespace Sys2Proof.Machine

/-! ## Unused codes -/

/-- The cells of the unused codes have no operand byte, or two that `fault` does not fetch (R100, R105). -/
theorem shapeOf_unused :
    ∀ op ∈ unusedCodes, (∃ i, shapeOf op = .one i) ∨ ∃ f, shapeOf op = .unusedThree f := by
  simp only [unusedCodes, List.forall_mem_cons]
  exact ⟨.inl ⟨_, rfl⟩, .inl ⟨_, rfl⟩, .inl ⟨_, rfl⟩, .inl ⟨_, rfl⟩, .inl ⟨_, rfl⟩, .inl ⟨_, rfl⟩, .inl ⟨_, rfl⟩,
    .inr ⟨_, rfl⟩, .inl ⟨_, rfl⟩, .inr ⟨_, rfl⟩, .inr ⟨_, rfl⟩, .inr ⟨_, rfl⟩, List.forall_mem_nil _⟩

/-- Under `fault` the fetch of an unused code reads its byte and no more (log 15). -/
theorem fetchInstr_unused {s : State} (hfault : s.params.undefOpcode = .fault) (h : (memRead s.pc s).1 ∈ unusedCodes) :
    ∃ i, fetchInstr s = (i, (fetch8 s).2) ∧ firstByte i = (memRead s.pc s).1 := by
  unfold fetchInstr
  dsimp only
  rw [fetch8_fst]
  obtain ⟨i, shape⟩ | ⟨f, shape⟩ := shapeOf_unused _ h
  · have makes : (shapeOf (memRead s.pc s).1).Makes [] i := shape ▸ .one i
    exact ⟨i, by simp only [shape], firstByte_of_makes makes⟩
  · have makes : (shapeOf (memRead s.pc s).1).Makes (wordBytes 0x0000) (f 0x0000) := shape ▸ .unusedThree f _
    exact ⟨f 0x0000, by simp only [shape, hfault], firstByte_of_makes makes⟩

/-- An instruction outside the set is the fault of R311 under `fault`, with its own code. -/
theorem exec_unused_fault {i : Instr} {s : State} (ill : i.wellFormed = false)
    (hfault : s.params.undefOpcode = .fault) :
    exec i s = .fault (.undefinedOpcode (firstByte i) (some (s.pc - 1)) s) := by
  have stops (code : Byte) (documented : State → State) :
      unusedCode code documented s = .fault (.undefinedOpcode code (some (s.pc - 1)) s) := by
    unfold unusedCode
    rw [hfault]
  cases i with
  | unused08 | unused10 | unused18 | unused20 | unused28 | unused30 | unused38 | unusedCB adr | unusedD9
  | unusedDD adr | unusedED adr | unusedFD adr => exact stops _ _
  | _ => cases ill

/-- Under `fault` an unused code uses nothing (log 14). -/
theorem uses_unused_fault {i : Instr} {s : State} (ill : i.wellFormed = false)
    (hfault : s.params.undefOpcode = .fault) :
    uses i s = noUses := by
  obtain ⟨u, -, e⟩ := uses_of_unused ill
  rw [e, unusedUses, hfault]

theorem mayRead_nil (s : State) : MayRead [] s := fun _ _ hx => absurd hx List.not_mem_nil

/-- A read does not look at the schedule. -/
theorem memRead_afterInput (a : Word) (s : State) :
    memRead a (afterInput s) = ((memRead a s).1, afterInput (memRead a s).2) := by
  rw [memRead_eq, memRead_eq, afterInput_params]
  cases memKind s.params a <;> rfl

/-- Settles O28: the fetch stops at the byte, the check of R351 has nothing to ask, and `exec` is the fault. -/
theorem unusedCodeFaults : Obligations.UnusedCodeFaults := by
  intro s hhalted hreset hrequest hfault hunused
  have byte : (memRead (afterInput s).pc (afterInput s)).1 = (memRead s.pc s).1 := by
    rw [memRead_afterInput, afterInput_pc]
  obtain ⟨i, fetched, code⟩ := fetchInstr_unused (s := afterInput s) hfault (byte ▸ hunused)
  have ill : i.wellFormed = false := (wellFormed_eq_false_iff i).mpr (code ▸ byte ▸ hunused)
  have policy : (fetch8 (afterInput s)).2.params.undefOpcode = .fault := by simpa using hfault
  have address : (fetch8 (afterInput s)).2.pc - 1 = s.pc := BitVec.add_sub_cancel s.pc 1
  have left : (fetch8 (afterInput s)).2 = { (memRead s.pc s).2 with pc := s.pc + 1, inputs := s.inputs.tail } := by
    rw [fetch8, afterInput_pc, memRead_afterInput]
    simp [afterInput]
  rw [step_execute s hreset (.inl hrequest) hhalted, fetched]
  dsimp only
  rw [uses_unused_fault ill policy, checked_pass _ _ _ (mayRead_nil _), exec_unused_fault ill policy, code, byte,
    address, left]
  rfl

/-! ## Reads of items never written -/

/-- The operation of an instruction faults for an unused code only (R310, R311). -/
theorem exec_eq_fault {i : Instr} {s : State} {r : Fault} (h : exec i s = .fault r) :
    ∃ code addr, r = .undefinedOpcode code addr s := by
  cases form i with
  | unused _ code documented run _ _ =>
    rw [run, unusedCode] at h
    split at h
    · cases h
      exact ⟨_, _, rfl⟩
    · cases h
  | _ => simp at h

theorem exec_ne_unwrittenRead (i : Instr) (s : State) (x : Item) (u : State) :
    exec i s ≠ .fault (.unwrittenRead x u) := by
  intro h
  obtain ⟨code, addr, e⟩ := exec_eq_fault h
  cases e

/-- The check faults only where R351 does: the item is read, and it was never written. -/
theorem checked_eq_unwrittenRead {us : Uses} {s u : State} {o : Result} {x : Item}
    (ho : ∀ x u, o ≠ .fault (.unwrittenRead x u)) (h : checked us s o = .fault (.unwrittenRead x u)) :
    s.params.resetUnspecified = .faultOnRead ∧ x ∉ s.written := by
  unfold checked at h
  split at h
  next y first =>
    cases h
    obtain ⟨hp, -, hx⟩ := firstUnwritten_eq_some _ _ _ first
    exact ⟨hp, hx⟩
  next =>
    split at h
    · cases h
    · exact absurd h (ho x u)
    · cases h

/-- An accepted request faults so only in the check of SP. -/
theorem takeInterrupt_eq_unwrittenRead {bytes : List Byte} {s u : State} {x : Item}
    (h : takeInterrupt bytes s = .fault (.unwrittenRead x u)) :
    s.params.resetUnspecified = .faultOnRead ∧ x ∉ s.written := by
  unfold takeInterrupt at h
  split at h
  · exact checked_eq_unwrittenRead (s := beginEntry s) (o := .next _) (fun _ _ e => by cases e) h
  all_goals cases h

theorem finishStep_eq_fault {i : Instr} {o : Result} {r : Fault} (h : finishStep i o = .fault r) : o = .fault r := by
  cases o with
  | fault r' => exact h
  | next t => cases h
  | refused r' => cases h

/-- The step ends in the fault of R351 only under `fault_on_read` and for an item never written. -/
theorem step_eq_unwrittenRead {s u : State} {x : Item} (h : step s = .fault (.unwrittenRead x u)) :
    s.params.resetUnspecified = .faultOnRead ∧ x ∉ s.written := by
  cases hreset : (currentInput s).reset with
  | true =>
    rw [step_resets hreset] at h
    cases h
  | false =>
    by_cases hgo : (currentInput s).request = none ∨ acceptsRequest s = false
    · cases hhalted : s.halted with
      | true =>
        rw [step_waits hreset hgo hhalted] at h
        cases h
      | false =>
        rw [step_execute s hreset hgo hhalted] at h
        simpa using checked_eq_unwrittenRead (exec_ne_unwrittenRead _ _) (finishStep_eq_fault h)
    · rw [not_or, Bool.not_eq_false] at hgo
      obtain ⟨hsome, haccept⟩ := hgo
      obtain ⟨bytes, hrequest⟩ := Option.ne_none_iff_exists'.mp hsome
      rw [step_takes hreset hrequest haccept] at h
      exact takeInterrupt_eq_unwrittenRead (s := afterInput s) h

/-- An instruction that reads an item never written stops in the state after its fetch. -/
theorem step_reads_unwritten {s v : State} {i : Instr} (hreset : (currentInput s).reset = false)
    (hgo : (currentInput s).request = none ∨ acceptsRequest s = false) (hhalted : s.halted = false)
    (hfetched : fetchInstr (afterInput s) = (i, v)) (hmay : ¬ MayRead (uses i v).reads v) :
    ∃ x ∈ (uses i v).reads, x ∉ v.written ∧ step s = .fault (.unwrittenRead x v) := by
  obtain ⟨x, hx, hn, stops⟩ := checked_stop _ _ (exec i v) hmay
  exact ⟨x, hx, hn, by rw [step_execute s hreset hgo hhalted, hfetched, stops, finishStep_fault]⟩

/-- Settles O32: the check of R351 stops an instruction after its fetch (`step_reads_unwritten`) and the entry after
points (1) and (2) of R322; nothing else raises this fault (`step_eq_unwrittenRead`). -/
theorem unwrittenReadFaults : Obligations.UnwrittenReadFaults := by
  refine ⟨?instruction, ?entry, fun s u x h => step_eq_unwrittenRead h⟩
  case instruction =>
    intro s i rest hhalted hreset hrequest h h1 h2 hd hi hmay
    have fetched := fetchInstr_of_decode (s := afterInput s) h h1 h2 hd hi
    have used := uses_congr i s { afterInput s with pc := s.pc + BitVec.ofNat 16 (encode i).length } rfl rfl
    obtain ⟨x, hx, hn, stops⟩ := step_reads_unwritten hreset (.inl hrequest) hhalted fetched (used ▸ hmay)
    exact ⟨x, used ▸ hx, hn, stops⟩
  case entry =>
    intro s bytes target hinte hei hreset hrequest hbytes hmay
    obtain ⟨called, read⟩ : ∃ w, readSupplied s.params.undefOpcode bytes = .call w := by
      obtain ⟨n, rfl⟩ | rfl := hbytes
      · exact ⟨_, readSupplied_rst _ n⟩
      · exact ⟨_, readSupplied_call _ target⟩
    have taken := step_takes hreset hrequest (acceptsRequest_eq_true.mpr ⟨hinte, hei⟩)
    have entered := takeInterrupt_of_call (s := afterInput s) read
    have unread : ¬ MayRead stackUses.reads (beginEntry (afterInput s)) := hmay
    obtain ⟨x, hx, -, stops⟩ := checked_stop stackUses _ (.next (enterInterrupt called (afterInput s))) unread
    obtain rfl : x = .sp := by simpa [stackUses] using hx
    rw [taken, entered, stops]
    rfl

end Sys2Proof.Machine
end

section
/-! Transfer of control and the special instructions (R249 to R280, R300 to R303): each operation is one of `jumpTo`,
`callTo`, `returnFrom`, or one of these under a condition (`exec_of_condTrue`), or writes control bits. -/

namespace Sys2Proof.Machine

/-! ## Codes -/

theorem encode_jumpCond (cond : Cond) (adr : Word) :
    encode (.jumpCond cond adr) = [0b11#2 ++ condCode cond ++ 0b010#3, lowByte adr, highByte adr] := by
  cases cond <;> rfl

theorem encode_callCond (cond : Cond) (adr : Word) :
    encode (.callCond cond adr) = [0b11#2 ++ condCode cond ++ 0b100#3, lowByte adr, highByte adr] := by
  cases cond <;> rfl

theorem encode_retCond (cond : Cond) : encode (.retCond cond) = [0b11#2 ++ condCode cond ++ 0b000#3] := by
  cases cond <;> rfl

/-! ## Conditions -/

/-- An instruction that does something when a condition of R251 is true, and nothing when it is false. -/
theorem exec_of_condTrue {i : Instr} {cond : Cond} {s : State} {op : State → State}
    (he : exec i s = .next (if condHolds cond s.f then op s else s)) (h : CondTrue cond s.f) :
    exec i s = .next (op s) := by
  rw [he, if_pos ((condTrue_iff_condHolds cond s.f).mp h)]

theorem exec_of_not_condTrue {i : Instr} {cond : Cond} {s : State} {op : State → State}
    (he : exec i s = .next (if condHolds cond s.f then op s else s)) (h : ¬ CondTrue cond s.f) :
    exec i s = .next s := by
  rw [he, if_neg (mt (condTrue_iff_condHolds cond s.f).mpr h)]

/-! ## The instructions -/

/-- Settles O57: `jumpTo` writes PC and nothing else. -/
theorem jumpInstructions : Obligations.JumpInstructions := fun cond adr s =>
  ⟨encodedAs_of_encode rfl, encodedAs_of_encode rfl, encodedAs_of_encode (encode_jumpCond cond adr), exec_jmp adr s,
    exec_pchl s, exec_of_condTrue (op := jumpTo adr) (exec_jumpCond cond adr s),
    exec_of_not_condTrue (op := jumpTo adr) (exec_jumpCond cond adr s)⟩

/-- Settles O58: each call is `callTo`, whose effect is `calls_callTo`. -/
theorem callInstructions : Obligations.CallInstructions := fun cond adr n s =>
  have called (target : Word) := And.intro (calls_callTo target s) (sameControl_callTo target s)
  ⟨encodedAs_of_encode rfl, encodedAs_of_encode (encode_rst n), encodedAs_of_encode (encode_callCond cond adr),
    ⟨_, exec_call adr s, called adr⟩, ⟨_, exec_rst n s, called (restartAddress n)⟩,
    fun h => ⟨_, exec_of_condTrue (op := callTo adr) (exec_callCond cond adr s) h, called adr⟩,
    exec_of_not_condTrue (op := callTo adr) (exec_callCond cond adr s)⟩

/-- Settles O59: each return is `returnFrom`, whose effect is `returns_returnFrom`. -/
theorem returnInstructions : Obligations.ReturnInstructions := fun cond s =>
  ⟨encodedAs_of_encode rfl, encodedAs_of_encode (encode_retCond cond), ⟨_, exec_ret s, returns_returnFrom s⟩,
    fun h => ⟨_, exec_of_condTrue (op := returnFrom) (exec_retCond cond s) h, returns_returnFrom s⟩,
    exec_of_not_condTrue (op := returnFrom) (exec_retCond cond s)⟩

/-- Settles O60: the four operations write control bits only, and step (5) is `finishStep_next`. -/
theorem specialInstructions : Obligations.SpecialInstructions := fun s =>
  ⟨encodedAs_of_encode rfl, encodedAs_of_encode rfl, encodedAs_of_encode rfl, encodedAs_of_encode rfl,
    exec_nop s, exec_hlt s, exec_ei s, exec_di s,
    finishStep_next .nop s, finishStep_next .hlt (halt s), finishStep_next .ei (enableInterrupts s),
    finishStep_next .di (disableInterrupts s)⟩

end Sys2Proof.Machine
end
